-- ==== Sys2Proof/Word.lean ====
section
/-! DEFINITION. The machine's two word sizes (spec 00_scope R7, R9): the byte and the 16-bit word. -/

namespace Sys2Proof

/-- The addressable unit and the width of A, X, Y, S and P (00_scope R7): an integer in 0..255 (R9). -/
abbrev Byte := BitVec 8

/-- An address and the width of PC (00_scope R7): an integer in 0..65535 (R9). -/
abbrev Word := BitVec 16

end Sys2Proof
end

