-- ==== Sys2Proof/Machine/Bits.lean ====
section
/-! DEFINITION. Byte order, extension and byte-pair helpers (spec 00_scope R10, R11; 20_memory R50). -/

namespace Sys2Proof

/-- `w[15:8]` (00_scope R10). -/
def hiByte (w : Word) : Byte := w.extractLsb' 8 8

/-- `w[7:0]` (00_scope R10). -/
def loByte (w : Word) : Byte := w.setWidth 8

/-- `{hi, lo}` of 00_scope R10: `hi * 256 + lo`. -/
def mkWord (hi lo : Byte) : Word := BitVec.ofNat 16 (hi.toNat * 256 + lo.toNat)

/-- `zext_16` of 00_scope R11. -/
def zext16 (b : Byte) : Word := b.setWidth 16

/-- `sext_16` of 00_scope R11. -/
def sext16 (b : Byte) : Word := b.signExtend 16

end Sys2Proof
end

