-- ==== Sys2Proof/Config.lean ====
section
/-! DEFINITION. What the spec leaves to the implementation (00_scope R8; 92_eei_decisions section 2): the named
parameters, and the free values (draws, and the device oracle), which are opaque, so that nothing can be proved of
the value of one. -/

namespace Sys2Proof

/-- What is fitted at 0x0400-0x0FFF, "Expansion RAM" (20_memory R63). -/
inductive FitRam where
  | ram
  | empty
deriving DecidableEq, Repr

/-- What is fitted in one of the three 8K "Expansion RAM/ROM" blocks (20_memory R63). -/
inductive FitAny where
  | ram
  | rom
  | empty
deriving DecidableEq, Repr

/-- What is fitted at 0xA000-0xBFFF, "Expansion ROM" (20_memory R63). -/
inductive FitRom where
  | rom
  | empty
deriving DecidableEq, Repr

/-- `DECIMAL_MODEL` (00_scope R8; 40_arith_logic R132, R142, R143). -/
inductive DecimalModel where
  | conservative
  | nmosReference
deriving DecidableEq, Repr

/-- `COLOR_RAM_WIDTH` (00_scope R8; 20_memory R67): 4 or 8 bits. -/
inductive ColorWidth where
  | four
  | eight
deriving DecidableEq, Repr

/-- The named parameters of 00_scope R8 that are plain choices. `MEMORY_CONFIG` is the five blocks; `ROM_IMAGE` and
the power-on RAM are the content of State's memory; `IO_ORACLE` is `Config.ioRead`; the interrupt-line schedule is
a field of State. State carries one value of this type and no step changes it, so a statement about every state
holds for every choice of the parameters (10_state R41). DESIGN CHOICE, safe: log 6. -/
structure Params where
  /-- `MEMORY_CONFIG` of 0x0400-0x0FFF. -/
  block0400 : FitRam
  /-- `MEMORY_CONFIG` of 0x2000-0x3FFF. -/
  block2000 : FitAny
  /-- `MEMORY_CONFIG` of 0x4000-0x5FFF. -/
  block4000 : FitAny
  /-- `MEMORY_CONFIG` of 0x6000-0x7FFF. -/
  block6000 : FitAny
  /-- `MEMORY_CONFIG` of 0xA000-0xBFFF. -/
  blockA000 : FitRom
  /-- `PLA_SETS_NZ` (47_stack_transfer R218). -/
  plaSetsNZ : Bool
  /-- `JMP_INDIRECT_PAGE_WRAP` (45_jump_sub R197). -/
  jmpIndirectPageWrap : Bool
  /-- `DECIMAL_MODEL`. -/
  decimalModel : DecimalModel
  /-- `COLOR_RAM_WIDTH`. -/
  colorRamWidth : ColorWidth
deriving DecidableEq, Repr

/-- The defaults of 92_eei_decisions section 2: the unexpanded VIC-20, `PLA_SETS_NZ` and `JMP_INDIRECT_PAGE_WRAP`
true, the conservative decimal model, a 4-bit colour RAM. -/
def Params.default : Params where
  block0400 := .empty
  block2000 := .empty
  block4000 := .empty
  block6000 := .empty
  blockA000 := .empty
  plaSetsNZ := true
  jmpIndirectPageWrap := true
  decimalModel := .conservative
  colorRamWidth := .four

/-- One access of the processor to a device address (20_memory R66): the history that `IO_ORACLE` depends on is a
list of these. -/
inductive IoAccess where
  | read (addr : Word) (value : Byte)
  | write (addr : Word) (value : Byte)
deriving DecidableEq, Repr

/-- What the environment does to the three inputs before one instruction boundary (60_exceptions R242;
92_eei_decisions section 2, "interrupt-line schedule"). DESIGN CHOICE, safe: log 9; the NMI as an edge is DEDUCED, safe:
log 11. -/
structure BoundaryInput where
  /-- The level of `irq_line` at this boundary: true when some device requests (60_exceptions R243). -/
  irqLine : Bool
  /-- Whether an inactive-to-active transition of the NMI input occurred since the boundary before (R244). -/
  nmiEdge : Bool
  /-- Whether reset was requested since the boundary before. -/
  resetRequest : Bool
deriving DecidableEq, Repr

/-- A boundary at which nothing is requested. -/
def BoundaryInput.quiet : BoundaryInput := { irqLine := false, nmiEdge := false, resetRequest := false }

/-- `any8()` of 00_scope R18: the n-th draw, as a byte. A free value: log 7. -/
opaque Config.any8 : Nat → Byte

/-- `any4` of 20_memory R67: the n-th draw, as four bits. A free value: log 7. -/
opaque Config.any4 : Nat → BitVec 4

/-- `any1()` of 00_scope R18: the n-th draw, as a bit. A free value: log 7. -/
opaque Config.any1 : Nat → Bool

/-- `IO_ORACLE.read(history, addr)` of 20_memory R66; the history is newest first. A free value: log 8. -/
opaque Config.ioRead : List IoAccess → Word → Byte

end Sys2Proof
end

