-- ==== Sys2Proof/Machine/State.lean ====
section
/-! DEFINITION. The whole architectural state (spec 10_state R20), the outcomes that end a run, and reset
(10_state R42; 60_exceptions R250). -/

namespace Sys2Proof.Machine

/-- The six stored bits of P (10_state R27 to R35). Bits 5 and 4 are not stored (R33, R34). -/
structure Flags where
  /-- `P.N`, negative, bit 7 (10_state R35). -/
  n : Bool
  /-- `P.V`, overflow, bit 6 (10_state R32). -/
  v : Bool
  /-- `P.D`, decimal mode, bit 3 (10_state R31). -/
  d : Bool
  /-- `P.I`, interrupt disable, bit 2 (10_state R30). -/
  i : Bool
  /-- `P.Z`, zero, bit 1 (10_state R29). -/
  z : Bool
  /-- `P.C`, carry, bit 0 (10_state R28). -/
  c : Bool
deriving DecidableEq, Repr

/-- The state of the machine. The registers, flags, memory and pending-interrupt bits are the spec's (10_state R20,
R40); `schedule`, `io`, `draws` and `params` are the model's own and carry what the spec calls parameters of the
step (10_state R41). -/
structure State where
  /-- A, the accumulator (10_state R21). -/
  a : Byte
  /-- X, an index register (10_state R22). -/
  x : Byte
  /-- Y, an index register (10_state R22). -/
  y : Byte
  /-- S, the stack pointer: the low byte of the address of the next free byte (10_state R23, R26). -/
  sp : Byte
  /-- PC, the address of the next instruction's opcode byte (10_state R24). -/
  pc : Word
  /-- P, the processor status register's stored bits (10_state R27). -/
  p : Flags
  /-- The stored bytes: RAM, ROM (`ROM_IMAGE`) and colour RAM (10_state R39; 20_memory R62, R65, R67). One list for the
  three is a DESIGN CHOICE, safe: log 12. -/
  mem : Memory
  /-- `irq_line`, the level of the IRQ input, true when a device requests (10_state R40 (a)). -/
  irqLine : Bool
  /-- `nmi_pending`, set by an NMI edge and cleared when the NMI is taken (10_state R40 (b)). -/
  nmiPending : Bool
  /-- `reset_pending`, set by the reset input (10_state R40 (c)). -/
  resetPending : Bool
  /-- The model's own: the interrupt-line schedule still to come, next boundary first (60_exceptions R242). When it
  has run out the IRQ level stays and no edge or reset comes. DESIGN CHOICE, safe: log 9. -/
  schedule : List BoundaryInput
  /-- The model's own: the device accesses so far, newest first (20_memory R66). DESIGN CHOICE, safe for claims
  about one run, unsafe for claims that compare two: log 8. -/
  io : List IoAccess
  /-- The model's own: how many draws have been taken (00_scope R18). DESIGN CHOICE, safe for claims about one
  run, unsafe for claims that compare two: log 7. -/
  draws : Nat
  /-- The model's own: the named parameters (00_scope R8; 10_state R41). No step changes them. -/
  params : Params
deriving DecidableEq, Repr

/-- The reasons a step can stop with a fault: none. The hardware raises no synchronous exception and no access
fails (60_exceptions R240; 20_memory R55); 93_implementation_defined treats no behaviour as a fault. -/
inductive Fault where
deriving DecidableEq, Repr

/-- The reasons a step can have no meaning. -/
inductive Refusal where
  /-- Raised by an arm of exec that has no meaning yet (no arm of this model is such an arm). Safe: nothing can be
  proved of what follows. -/
  | notModelled (mnemonic : String)
  /-- `refuse IllegalOpcode(byte, pc0)` of 30_encoding R97, raised by step when the opcode byte is one of the 105
  that the spec lists no instruction for. Safe: nothing can be proved of what follows. -/
  | illegalOpcode (byte : Byte) (addr : Word)
deriving DecidableEq, Repr

/-- `RESET_STATE` with `ROM_IMAGE` and the parameters (92_eei_decisions section 2): what a power-on leaves open.
The flags are N, V, D, Z, C; the memory holds the power-on RAM and the ROM bytes. -/
structure PowerOn where
  a : Byte
  x : Byte
  y : Byte
  sp : Byte
  n : Bool
  v : Bool
  d : Bool
  z : Bool
  c : Bool
  mem : Memory
  params : Params
deriving DecidableEq, Repr

/-- The machine right after a power-on reset, for any draw of what the spec leaves open: the table of 10_state R42,
with PC from the vector at 0xFFFC, which lies in ROM (20_memory R68). -/
def State.powerOn (o : PowerOn) : State where
  a := o.a
  x := o.x
  y := o.y
  sp := o.sp
  pc := mkWord (o.mem.read 0xFFFD) (o.mem.read 0xFFFC)
  p := { n := o.n, v := o.v, d := o.d, i := true, z := o.z, c := o.c }
  mem := o.mem
  irqLine := false
  nmiPending := false
  resetPending := false
  schedule := []
  io := []
  draws := 0
  params := o.params

/-- The one draw that State.reset takes: A = X = Y = 0 (log 2), S = 0xFD, which the reset sequence leaves of a
cold S of 0 (log 3), the five open flags clear (log 4), nothing listed in memory (log 1, log 5), and the default
parameters (log 6). DESIGN CHOICE, unsafe. -/
def PowerOn.chosen : PowerOn where
  a := 0
  x := 0
  y := 0
  sp := 0xFD
  n := false
  v := false
  d := false
  z := false
  c := false
  mem := []
  params := Params.default

/-- The machine right after reset: 10_state R42 for the draw of `PowerOn.chosen`. -/
def State.reset : State := State.powerOn PowerOn.chosen


/-- What an instruction or a step answers. -/
abbrev Result := Host.Outcome State Fault Refusal

end Sys2Proof.Machine
end

