-- ==== Sys2Proof/Machine/Flags.lean ====
section
/-! DEFINITION. The flag primitives (spec 00_scope R17) and every result-and-flags computation of the instruction
files 40, 41 and 44. -/

namespace Sys2Proof.Machine

/-- `SetNZ(v)` (00_scope R17): N is bit 7 of the byte, Z says that it is zero. -/
def Flags.setNZ (p : Flags) (v : Byte) : Flags := { p with n := v.msb, z := decide (v = 0) }

/-- `PackP(b)` (00_scope R17): the byte `{N, V, 1, b, D, I, Z, C}`. -/
def Flags.pack (p : Flags) (b : Bool) : Byte :=
  BitVec.ofBool p.n ++ BitVec.ofBool p.v ++ 1#1 ++ BitVec.ofBool b ++ BitVec.ofBool p.d ++ BitVec.ofBool p.i
    ++ BitVec.ofBool p.z ++ BitVec.ofBool p.c

/-- `UnpackP(v)` (00_scope R17): all six flags from the byte; bits 5 and 4 are ignored (10_state R33, R34). -/
def Flags.unpack (v : Byte) : Flags where
  n := v.getLsbD 7
  v := v.getLsbD 6
  d := v.getLsbD 3
  i := v.getLsbD 2
  z := v.getLsbD 1
  c := v.getLsbD 0

/-- A result byte with the flags after it. -/
structure Alu where
  value : Byte
  flags : Flags
deriving DecidableEq, Repr

/-- Binary ADC (40_arith_logic R131). -/
def adcBinary (a m : Byte) (p : Flags) : Alu :=
  let sum := a.toNat + m.toNat + p.c.toNat
  let r := BitVec.ofNat 8 sum
  { value := r
    flags :=
      { p with
        n := r.msb
        z := decide (r = 0)
        c := decide (256 ≤ sum)
        v := (a.msb == m.msb) && (r.msb != a.msb) } }

/-- Binary SBC (40_arith_logic R141): the borrow in is the complement of C. -/
def sbcBinary (a m : Byte) (p : Flags) : Alu :=
  let diff : Int := (a.toNat : Int) - (m.toNat : Int) - (1 - (p.c.toNat : Int))
  let r := BitVec.ofInt 8 diff
  { value := r
    flags :=
      { p with
        n := r.msb
        z := decide (r = 0)
        c := decide (0 ≤ diff)
        v := (a.msb != m.msb) && (r.msb != a.msb) } }

/-- A byte whose two digits are at most 9 (40_arith_logic R132, "valid BCD"). -/
def validBcd (b : Byte) : Bool := decide (b.toNat / 16 ≤ 9) && decide (b.toNat % 16 ≤ 9)

/-- `dec(b) = 10*b[7:4] + b[3:0]` (40_arith_logic R132). -/
def bcdValue (b : Byte) : Nat := 10 * (b.toNat / 16) + b.toNat % 16

/-- `bcd(n)` for n in 0..99: the byte `{n div 10, n mod 10}` (40_arith_logic R132). -/
def toBcd (n : Nat) : Byte := BitVec.ofNat 8 (16 * (n / 10) + n % 10)

/-- A result byte, the flags after it, and the draw counter after the draws it took. -/
structure DecimalAlu where
  value : Byte
  flags : Flags
  draws : Nat
deriving DecidableEq, Repr

/-- The last branch of 40_arith_logic R132 and R142: with an operand that is no BCD byte A, C, N, V and Z are five
draws. -/
def decimalInvalid (p : Flags) (k : Nat) : DecimalAlu where
  value := Config.any8 k
  flags :=
    { p with c := Config.any1 (k + 1), n := Config.any1 (k + 2), v := Config.any1 (k + 3), z := Config.any1 (k + 4) }
  draws := k + 5

/-- The valid branch of 40_arith_logic R132 and R142: A and C are the decimal result, N, V and Z three draws. -/
def decimalValid (value : Byte) (carry : Bool) (p : Flags) (k : Nat) : DecimalAlu where
  value := value
  flags := { p with c := carry, n := Config.any1 k, v := Config.any1 (k + 1), z := Config.any1 (k + 2) }
  draws := k + 3

/-- Conservative decimal ADC (40_arith_logic R132). -/
def adcConservative (a m : Byte) (p : Flags) (k : Nat) : DecimalAlu :=
  if validBcd a && validBcd m then
    let d := bcdValue a + bcdValue m + p.c.toNat
    decimalValid (toBcd (d % 100)) (decide (100 ≤ d)) p k
  else decimalInvalid p k

/-- Conservative decimal SBC (40_arith_logic R142). -/
def sbcConservative (a m : Byte) (p : Flags) (k : Nat) : DecimalAlu :=
  if validBcd a && validBcd m then
    let d : Int := (bcdValue a : Int) - (bcdValue m : Int) - (1 - (p.c.toNat : Int))
    decimalValid (toBcd (d % 100).toNat) (decide (0 ≤ d)) p k
  else decimalInvalid p k

/-- The low-digit sum of the NMOS decimal ADC, `al` (40_arith_logic R143). -/
def nmosAdcLow (a m : Byte) (c : Bool) : Nat :=
  let al := a.toNat % 16 + m.toNat % 16 + c.toNat
  if 0x0A ≤ al then (al + 0x06) % 16 + 0x10 else al

/-- The intermediate sum of the NMOS decimal ADC, `t` before its correction (40_arith_logic R143). -/
def nmosAdcSum (a m : Byte) (c : Bool) : Nat :=
  a.toNat / 16 * 16 + m.toNat / 16 * 16 + nmosAdcLow a m c

/-- NMOS decimal ADC (40_arith_logic R143): Z is the binary sum's, N and V come from the intermediate sum. -/
def adcNmos (a m : Byte) (p : Flags) : Alu :=
  let t := nmosAdcSum a m p.c
  let t7 := t.testBit 7
  let u := if 0xA0 ≤ t then t + 0x60 else t
  { value := BitVec.ofNat 8 u
    flags :=
      { p with
        n := t7
        v := (a.msb == m.msb) && (t7 != a.msb)
        z := decide ((a.toNat + m.toNat + p.c.toNat) % 256 = 0)
        c := decide (0x100 ≤ u) } }

/-- The low-digit difference of the NMOS decimal SBC, `al` (40_arith_logic R143). -/
def nmosSbcLow (a m : Byte) (c : Bool) : Int :=
  let al : Int := (a.toNat % 16 : Nat) - (m.toNat % 16 : Nat) + (c.toNat : Int) - 1
  if al < 0 then (al - 0x06) % 16 - 0x10 else al

/-- NMOS decimal SBC (40_arith_logic R143): the flags are the binary subtraction's. -/
def sbcNmos (a m : Byte) (p : Flags) : Alu :=
  let t : Int := (a.toNat / 16 * 16 : Nat) - (m.toNat / 16 * 16 : Nat) + nmosSbcLow a m p.c
  let u : Int := if t < 0 then t - 0x60 else t
  { value := BitVec.ofInt 8 u
    flags := (sbcBinary a m p).flags }

/-- ADC by `P.D` and `DECIMAL_MODEL` (40_arith_logic R131, R132, R143), from the draw counter k. -/
def adcResult (model : DecimalModel) (a m : Byte) (p : Flags) (k : Nat) : DecimalAlu :=
  if p.d then
    match model with
    | .conservative => adcConservative a m p k
    | .nmosReference => { value := (adcNmos a m p).value, flags := (adcNmos a m p).flags, draws := k }
  else { value := (adcBinary a m p).value, flags := (adcBinary a m p).flags, draws := k }

/-- SBC by `P.D` and `DECIMAL_MODEL` (40_arith_logic R141, R142, R143), from the draw counter k. -/
def sbcResult (model : DecimalModel) (a m : Byte) (p : Flags) (k : Nat) : DecimalAlu :=
  if p.d then
    match model with
    | .conservative => sbcConservative a m p k
    | .nmosReference => { value := (sbcNmos a m p).value, flags := (sbcNmos a m p).flags, draws := k }
  else { value := (sbcBinary a m p).value, flags := (sbcBinary a m p).flags, draws := k }

/-- `Compare(r, M)` (40_arith_logic R135): C is the unsigned comparison, N bit 7 of the difference. -/
def Flags.compare (p : Flags) (r m : Byte) : Flags :=
  { p with c := decide (m.toNat ≤ r.toNat), z := decide (r = m), n := (r - m).msb }

/-- BIT (40_arith_logic R134): Z from A and M together, N and V from bits 7 and 6 of M alone. -/
def Flags.bitTest (p : Flags) (a m : Byte) : Flags :=
  { p with z := decide (a &&& m = 0), n := m.getLsbD 7, v := m.getLsbD 6 }

/-- ASL (41_shift_rotate R151). -/
def aslResult (v : Byte) (p : Flags) : Alu :=
  let r := v <<< 1
  { value := r, flags := { p.setNZ r with c := v.getLsbD 7 } }

/-- LSR (41_shift_rotate R152): N is written with 0. -/
def lsrResult (v : Byte) (p : Flags) : Alu :=
  let r := v >>> 1
  { value := r, flags := { p with c := v.getLsbD 0, n := false, z := decide (r = 0) } }

/-- ROL (41_shift_rotate R153): the old carry becomes bit 0. -/
def rolResult (v : Byte) (p : Flags) : Alu :=
  let r := (v <<< 1) + (BitVec.ofBool p.c).setWidth 8
  { value := r, flags := { p.setNZ r with c := v.getLsbD 7 } }

/-- ROR (41_shift_rotate R154): the old carry becomes bit 7. -/
def rorResult (v : Byte) (p : Flags) : Alu :=
  let r := (v >>> 1) + (if p.c then 0x80 else 0)
  { value := r, flags := { p.setNZ r with c := v.getLsbD 0 } }

/-- INC (44_incdec R189): the byte plus one, N and Z from it. -/
def incResult (v : Byte) (p : Flags) : Alu := { value := v + 1, flags := p.setNZ (v + 1) }

/-- DEC (44_incdec R186): the byte minus one, N and Z from it. -/
def decResult (v : Byte) (p : Flags) : Alu := { value := v - 1, flags := p.setNZ (v - 1) }

end Sys2Proof.Machine
end

