-- ==== Sys2Proof/Machine/Map.lean ====
section
/-! DEFINITION. The VIC-20 address map (spec 20_memory R60 to R67), the processor's fixed addresses (R68) and the
Kernal entry names (R70). -/

namespace Sys2Proof.Machine

/-- The boxes of the source's memory map (20_memory R60), lowest first. -/
inductive Block where
  | workingStorage
  | expansion0400
  | userBasic
  | screen
  | expansion2000
  | expansion4000
  | expansion6000
  | characterRom
  | vicChip
  | io0
  | colorRam
  | io2
  | io3
  | expansionA000
  | basicRom
  | kernalRom
deriving DecidableEq, Repr

/-- How an address behaves (20_memory R62 to R67). -/
inductive Kind where
  /-- Holds the last byte written (R62). -/
  | ram
  /-- A constant byte of `ROM_IMAGE`; writes are lost (R65). -/
  | rom
  /-- Colour RAM, narrow (R67). -/
  | colour
  /-- Answered by `IO_ORACLE` (R66). -/
  | device
  /-- Nothing fitted: reads draw, writes are lost (R64). -/
  | empty
deriving DecidableEq, Repr

/-- The box an address lies in: a region runs from its boundary to one less than the next (20_memory R60). -/
def blockAt (addr : Word) : Block :=
  let a := addr.toNat
  if a < 0x0400 then .workingStorage
  else if a < 0x1000 then .expansion0400
  else if a < 0x1E00 then .userBasic
  else if a < 0x2000 then .screen
  else if a < 0x4000 then .expansion2000
  else if a < 0x6000 then .expansion4000
  else if a < 0x8000 then .expansion6000
  else if a < 0x9000 then .characterRom
  else if a < 0x9110 then .vicChip
  else if a < 0x9400 then .io0
  else if a < 0x9800 then .colorRam
  else if a < 0x9C00 then .io2
  else if a < 0xA000 then .io3
  else if a < 0xC000 then .expansionA000
  else if a < 0xE000 then .basicRom
  else .kernalRom

/-- What a fitting of the 3K block makes of it (20_memory R63). -/
def FitRam.kind : FitRam → Kind
  | .ram => .ram
  | .empty => .empty

/-- What a fitting of an 8K RAM/ROM block makes of it (20_memory R63). -/
def FitAny.kind : FitAny → Kind
  | .ram => .ram
  | .rom => .rom
  | .empty => .empty

/-- What a fitting of the expansion ROM block makes of it (20_memory R63). -/
def FitRom.kind : FitRom → Kind
  | .rom => .rom
  | .empty => .empty

/-- The kind of a box under `MEMORY_CONFIG` (20_memory R60, last column; R63). -/
def kindOf (c : Params) : Block → Kind
  | .workingStorage => .ram
  | .expansion0400 => FitRam.kind c.block0400
  | .userBasic => .ram
  | .screen => .ram
  | .expansion2000 => FitAny.kind c.block2000
  | .expansion4000 => FitAny.kind c.block4000
  | .expansion6000 => FitAny.kind c.block6000
  | .characterRom => .rom
  | .vicChip => .device
  | .io0 => .device
  | .colorRam => .colour
  | .io2 => .device
  | .io3 => .device
  | .expansionA000 => FitRom.kind c.blockA000
  | .basicRom => .rom
  | .kernalRom => .rom

/-- The stack page (20_memory R68 (b); 10_state R26). -/
def stackBase : Word := 0x0100

/-- The NMI vector (20_memory R68 (c); 60_exceptions R241). -/
def nmiVector : Word := 0xFFFA

/-- The reset vector (20_memory R68 (c); 60_exceptions R241). -/
def resetVector : Word := 0xFFFC

/-- The vector IRQ and BRK share (20_memory R68 (c); 60_exceptions R241). -/
def irqVector : Word := 0xFFFE

/-- The 36 Kernal entry points, in address order (20_memory R70). They are names of addresses: a JSR to one runs
whatever the ROM holds there. -/
def kernalEntries : List (String × Word) :=
  [ ("RESTOR", 0xFF8A), ("VECTOR", 0xFF8D), ("SETMSG", 0xFF90), ("SECOND", 0xFF93), ("TKSA", 0xFF96),
    ("MEMTOP", 0xFF99), ("MEMBOT", 0xFF9C), ("SCNKEY", 0xFF9F), ("SETTMO", 0xFFA2), ("ACPTR", 0xFFA5),
    ("CIOUT", 0xFFA8), ("UNTLK", 0xFFAB), ("UNLSN", 0xFFAE), ("LISTEN", 0xFFB1), ("TALK", 0xFFB4),
    ("READST", 0xFFB7), ("SETLFS", 0xFFBA), ("SETNAM", 0xFFBD), ("OPEN", 0xFFC0), ("CLOSE", 0xFFC3),
    ("CHKIN", 0xFFC6), ("CHKOUT", 0xFFC9), ("CLRCHN", 0xFFCC), ("CHRIN", 0xFFCF), ("CHROUT", 0xFFD2),
    ("LOAD", 0xFFD5), ("SAVE", 0xFFD8), ("SETTIM", 0xFFDB), ("RDTIM", 0xFFDE), ("STOP", 0xFFE1),
    ("GETIN", 0xFFE4), ("CLALL", 0xFFE7), ("UDTIM", 0xFFEA), ("SCREEN", 0xFFED), ("PLOT", 0xFFF0),
    ("IOBASE", 0xFFF3) ]

end Sys2Proof.Machine
end

