-- ==== Sys2Proof/Machine/Ops.lean ====
section
/-! DEFINITION. The shared operations over memory and registers: the memory primitives (spec 00_scope R14, R15;
20_memory R54 to R67), the stack (00_scope R16; 10_state R26), taking an interrupt and reset (60_exceptions R246 to
R250) with the return from one (R251), and the sampling of the inputs at a boundary (R242). -/

namespace Sys2Proof.Machine

/-! ### Memory -/

/-- How an address behaves under the parameters (20_memory R60 to R67). -/
def State.kindAt (s : State) (addr : Word) : Kind := kindOf s.params (blockAt addr)

/-- The byte stored at an address: what a read returns where the address stores a whole byte. -/
def State.stored (s : State) (addr : Word) : Byte := s.mem.read addr.toNat

/-- The byte a read of an address returns in this state (20_memory R62 to R67). -/
def State.peek (s : State) (addr : Word) : Byte :=
  match s.kindAt addr with
  | .ram => s.stored addr
  | .rom => s.stored addr
  | .colour =>
    match s.params.colorRamWidth with
    | .four => BitVec.ofNat 8 ((Config.any4 s.draws).toNat * 16 + (s.stored addr).toNat % 16)
    | .eight => s.stored addr
  | .device => Config.ioRead s.io addr
  | .empty => Config.any8 s.draws

/-- The draw counter after a read: an empty address and 4-bit colour RAM take one draw (20_memory R64, R67). -/
def State.drawsAfterRead (s : State) (addr : Word) : Nat :=
  match s.kindAt addr with
  | .empty => s.draws + 1
  | .colour =>
    match s.params.colorRamWidth with
    | .four => s.draws + 1
    | .eight => s.draws
  | _ => s.draws

/-- The device history after a read (20_memory R66). -/
def State.ioAfterRead (s : State) (addr : Word) : List IoAccess :=
  match s.kindAt addr with
  | .device => .read addr (s.peek addr) :: s.io
  | _ => s.io

/-- The state after a read: only the draw counter and the device history can change (20_memory R58, R64). -/
def State.afterRead (s : State) (addr : Word) : State :=
  { s with draws := s.drawsAfterRead addr, io := s.ioAfterRead addr }

/-- A byte that was read, with the state after the read. -/
structure Loaded where
  value : Byte
  after : State
deriving DecidableEq, Repr

/-- A word that was formed from bytes read, with the state after the reads. -/
structure Located where
  addr : Word
  after : State
deriving DecidableEq, Repr

/-- `MemRead(addr)` (00_scope R14). -/
def State.load (s : State) (addr : Word) : Loaded := { value := s.peek addr, after := s.afterRead addr }

/-- The stored bytes after a write: RAM keeps it (20_memory R62), colour RAM keeps `COLOR_RAM_WIDTH` bits of it
(R67), and a write to ROM, to an empty address or to a device stores nothing (R64 to R66). -/
def State.memAfterWrite (s : State) (addr : Word) (v : Byte) : Memory :=
  match s.kindAt addr with
  | .ram => s.mem.write addr.toNat v
  | .colour =>
    match s.params.colorRamWidth with
    | .four => s.mem.write addr.toNat (v &&& 0x0F)
    | .eight => s.mem.write addr.toNat v
  | _ => s.mem

/-- The device history after a write: `IO_ORACLE.write(history, addr, v)` (20_memory R66). -/
def State.ioAfterWrite (s : State) (addr : Word) (v : Byte) : List IoAccess :=
  match s.kindAt addr with
  | .device => .write addr v :: s.io
  | _ => s.io

/-- `MemWrite(addr, 1, v)` (00_scope R14). -/
def State.store (s : State) (addr : Word) (v : Byte) : State :=
  { s with mem := s.memAfterWrite addr v, io := s.ioAfterWrite addr v }

/-- A little-endian word from two addresses, the low byte read first (00_scope R15). -/
def State.readPair (s : State) (low high : Word) : Located :=
  let l := s.load low
  let h := l.after.load high
  { addr := mkWord h.value l.value, after := h.after }

/-- `Read16(addr)` (00_scope R15). -/
def State.read16 (s : State) (addr : Word) : Located := s.readPair addr (addr + 1)

/-- `Read16zp(z)` (00_scope R15): both bytes from page zero. -/
def State.read16zp (s : State) (z : Byte) : Located := s.readPair (zext16 z) (zext16 (z + 1))

/-- `Read16pw(addr)` (00_scope R15; 45_jump_sub R197): the increment stays in the low byte when
`JMP_INDIRECT_PAGE_WRAP` is true. -/
def State.read16pw (s : State) (addr : Word) : Located :=
  if s.params.jmpIndirectPageWrap then s.readPair addr (mkWord (hiByte addr) (loByte addr + 1)) else s.read16 addr

/-! ### Registers -/

/-- `PC <- (PC + n) mod 65536` (10_state R24, R25). -/
def State.advance (s : State) (n : Word) : State := { s with pc := s.pc + n }

/-- `PC <- target` (00_scope R12). -/
def State.jump (s : State) (target : Word) : State := { s with pc := target }

/-- The flags written. -/
def State.setFlags (s : State) (p : Flags) : State := { s with p := p }

/-- `A <- v; SetNZ(v)`. -/
def State.loadA (s : State) (v : Byte) : State := { s with a := v, p := s.p.setNZ v }

/-- `X <- v; SetNZ(v)`. -/
def State.loadX (s : State) (v : Byte) : State := { s with x := v, p := s.p.setNZ v }

/-- `Y <- v; SetNZ(v)`. -/
def State.loadY (s : State) (v : Byte) : State := { s with y := v, p := s.p.setNZ v }

/-! ### The stack -/

/-- `0x0100 + S` for a value of S (10_state R26): the high byte of a stack address is always 0x01. -/
def stackAddr (sp : Byte) : Word := stackBase + zext16 sp

/-- `Push(v)` (00_scope R16; 10_state R26). -/
def State.push (s : State) (v : Byte) : State := { s.store (stackAddr s.sp) v with sp := s.sp - 1 }

/-- `Pull()` (00_scope R16; 10_state R26): S goes up, then the byte is read. -/
def State.pull (s : State) : Loaded := { s with sp := s.sp + 1 }.load (stackAddr (s.sp + 1))

/-- Two pushes, high byte first (10_state R26). -/
def State.pushWord (s : State) (w : Word) : State := (s.push (hiByte w)).push (loByte w)

/-- Two pulls, low byte first (10_state R26). -/
def State.pullWord (s : State) : Located :=
  let l := s.pull
  let h := l.after.pull
  { addr := mkWord h.value l.value, after := h.after }

/-! ### Taking an exception and returning from one -/

/-- The common entry sequence of BRK, IRQ and NMI (60_exceptions R246): PC and P are pushed, with I as it was before
the entry, I becomes 1, and PC is loaded from the vector. The spec marks it as its own inference: DEDUCED, log 15. -/
def State.interruptEntry (s : State) (ret : Word) (b : Bool) (vec : Word) : State :=
  let pushed := (s.pushWord ret).push (s.p.pack b)
  let masked := pushed.setFlags { s.p with i := true }
  let v := masked.read16 vec
  v.after.jump v.addr

/-- IRQ entry (60_exceptions R248): `irq_line` is not changed. -/
def State.irqEntry (s : State) : State := s.interruptEntry s.pc false irqVector

/-- NMI entry (60_exceptions R249): `nmi_pending` is cleared. -/
def State.nmiEntry (s : State) : State := { s with nmiPending := false }.interruptEntry s.pc false nmiVector

/-- Reset entry (60_exceptions R250): nothing is pushed, S goes down by three, I becomes 1, PC comes from the reset
vector. -/
def State.resetEntry (s : State) : State :=
  let cleared :=
    { s with resetPending := false, nmiPending := false, sp := s.sp - 3, p := { s.p with i := true } }
  let v := cleared.read16 resetVector
  v.after.jump v.addr

/-- The return from an interrupt (60_exceptions R251; 48_system R232): P, then PC low, then PC high, with nothing
added. -/
def State.returnFromInterrupt (s : State) : State :=
  let st := s.pull
  let target := (st.after.setFlags (Flags.unpack st.value)).pullWord
  target.after.jump target.addr

/-! ### Instruction boundaries -/

/-- The inputs at a boundary are taken from the schedule (60_exceptions R242 to R244; 10_state R40): `irq_line` is a
level, an NMI edge and a reset request are latched. -/
def State.sampleInputs (s : State) : State :=
  match s.schedule with
  | [] => s
  | b :: rest =>
    { s with
      irqLine := b.irqLine
      nmiPending := s.nmiPending || b.nmiEdge
      resetPending := s.resetPending || b.resetRequest
      schedule := rest }

/-- What a boundary does (60_exceptions R242). -/
inductive Event where
  | reset
  | nmi
  | irq
  | instruction
deriving DecidableEq, Repr

/-- The order of 60_exceptions R242 and R245: reset, then NMI, then an IRQ that I does not mask, else one
instruction. -/
def State.event (s : State) : Event :=
  if s.resetPending then .reset
  else if s.nmiPending then .nmi
  else if s.irqLine && !s.p.i then .irq
  else .instruction

end Sys2Proof.Machine
end

