-- ==== Sys2Proof/Machine/Operands.lean ====
section
/-! DEFINITION. The addressing modes (spec 30_encoding R100 to R112): the effective address of each, with the state
after the pointer reads, and the three things an instruction does with an operand. Implied (R100) and Accumulator
(R101) have no operand bytes. -/

namespace Sys2Proof.Machine

/-- Immediate (30_encoding R102): the operand byte is the value; no access. -/
def State.immediate (s : State) (b1 : Byte) : Loaded := { value := b1, after := s }

/-- Zero Page (30_encoding R103). -/
def State.zeroPage (s : State) (b1 : Byte) : Located := { addr := zext16 b1, after := s }

/-- Zero Page,X (30_encoding R104): the sum wraps inside page zero. -/
def State.zeroPageX (s : State) (b1 : Byte) : Located := { addr := zext16 (b1 + s.x), after := s }

/-- Zero Page,Y (30_encoding R105): the sum wraps inside page zero. -/
def State.zeroPageY (s : State) (b1 : Byte) : Located := { addr := zext16 (b1 + s.y), after := s }

/-- Absolute (30_encoding R106). -/
def State.absolute (s : State) (oper : Word) : Located := { addr := oper, after := s }

/-- Absolute,X (30_encoding R107): the carry goes into the high byte, the sum wraps at 0xFFFF. -/
def State.absoluteX (s : State) (oper : Word) : Located := { addr := oper + zext16 s.x, after := s }

/-- Absolute,Y (30_encoding R108). -/
def State.absoluteY (s : State) (oper : Word) : Located := { addr := oper + zext16 s.y, after := s }

/-- (Indirect,X) (30_encoding R109): the index is added inside page zero, then the pointer is read from page zero. -/
def State.indirectX (s : State) (b1 : Byte) : Located := s.read16zp (b1 + s.x)

/-- (Indirect),Y (30_encoding R110): the pointer is read from page zero, then the index is added. -/
def State.indirectY (s : State) (b1 : Byte) : Located :=
  let base := s.read16zp b1
  { addr := base.addr + zext16 s.y, after := base.after }

/-- Relative (30_encoding R111): the displacement counts from the instruction after the branch. -/
def relativeTarget (pc0 : Word) (b1 : Byte) : Word := pc0 + 2 + sext16 b1

/-- The data read of a reading instruction (20_memory R54). -/
def Located.load (l : Located) : Loaded := l.after.load l.addr

/-- The data write of a storing instruction (20_memory R54). -/
def Located.store (l : Located) (v : Byte) : State := l.after.store l.addr v

/-- The read and then the write of a read-modify-write instruction, at one address (20_memory R54; 41_shift_rotate
R150; 44_incdec R185). -/
def Located.modify (l : Located) (f : Byte → Flags → Alu) : State :=
  let v := l.load
  let r := f v.value v.after.p
  (v.after.store l.addr r.value).setFlags r.flags

/-- The Accumulator form of a shift (30_encoding R101; 41_shift_rotate R150). -/
def State.modifyA (s : State) (f : Byte → Flags → Alu) : State :=
  let r := f s.a s.p
  { s with a := r.value, p := r.flags }

end Sys2Proof.Machine
end

