-- ==== Sys2Proof/Syntax.lean ====
section
/-! DEFINITION. The instruction set as data (spec 00_scope R2; 30_encoding R92, R96): the 56 mnemonics, the 13
addressing modes, and one constructor of Instr for each of the 151 rows of spec/opcode_table.json. -/

namespace Sys2Proof

/-- The 56 mnemonics, with the names the source gives them (00_scope R2). -/
inductive Mnemonic where
  /-- ADC, "Add Memory to Accumulator with Carry". -/
  | adc
  /-- AND, "'AND' Memory with Accumulator". -/
  | and
  /-- ASL, "Shift Left One Bit (Memory or Accumulator)". -/
  | asl
  /-- BCC, "Branch on Carry Clear". -/
  | bcc
  /-- BCS, "Branch on Carry Set". -/
  | bcs
  /-- BEQ, "Branch on Result Zero". -/
  | beq
  /-- BIT, "Test Bits in Memory with Accumulator". -/
  | bit
  /-- BMI, "Branch on Result Minus". -/
  | bmi
  /-- BNE, "Branch on Result not Zero". -/
  | bne
  /-- BPL, "Branch on Result Plus". -/
  | bpl
  /-- BRK, "Force Break". -/
  | brk
  /-- BVC, "Branch on Overflow Clear". -/
  | bvc
  /-- BVS, "Branch on Overflow Set". -/
  | bvs
  /-- CLC, "Clear Carry Flag". -/
  | clc
  /-- CLD, "Clear Decimal Mode". -/
  | cld
  /-- CLI, "Clear interrupt Disable Bit". -/
  | cli
  /-- CLV, "Clear Overflow Flag". -/
  | clv
  /-- CMP, "Compare Memory and Accumulator". -/
  | cmp
  /-- CPX, "Compare Memory and Index X". -/
  | cpx
  /-- CPY, "Compare Memory and Index Y". -/
  | cpy
  /-- DEC, "Decrement Memory by One". -/
  | dec
  /-- DEX, "Decrement Index X by One". -/
  | dex
  /-- DEY, "Decrement Index Y by One". -/
  | dey
  /-- EOR, "'Exclusive-Or' Memory with Accumulator". -/
  | eor
  /-- INC, "Increment Memory by One". -/
  | inc
  /-- INX, "Increment Index X by One". -/
  | inx
  /-- INY, "Increment Index Y by One". -/
  | iny
  /-- JMP, "Jump to New Location". -/
  | jmp
  /-- JSR, "Jump to New Location Saving Return Address". -/
  | jsr
  /-- LDA, "Load Accumulator with Memory". -/
  | lda
  /-- LDX, "Load Index X with Memory". -/
  | ldx
  /-- LDY, "Load Index Y with Memory". -/
  | ldy
  /-- LSR, "Shift Right One Bit (Memory or Accumulator)". -/
  | lsr
  /-- NOP, "No Operation". -/
  | nop
  /-- ORA, "'OR' Memory with Accumulator". -/
  | ora
  /-- PHA, "Push Accumulator on Stack". -/
  | pha
  /-- PHP, "Push Processor Status on Stack". -/
  | php
  /-- PLA, "Pull Accumulator from Stack". -/
  | pla
  /-- PLP, "Pull Processor Status from Stack". -/
  | plp
  /-- ROL, "Rotate One Bit Left (Memory or Accumulator)". -/
  | rol
  /-- ROR, "Rotate One Bit Right (Memory or Accumulator)". -/
  | ror
  /-- RTI, "Return from Interrupt". -/
  | rti
  /-- RTS, "Return from Subroutine". -/
  | rts
  /-- SBC, "Subtract Memory from Accumulator with Borrow". -/
  | sbc
  /-- SEC, "Set Carry Flag". -/
  | sec
  /-- SED, "Set Decimal Mode". -/
  | sed
  /-- SEI, "Set Interrupt Disable Status". -/
  | sei
  /-- STA, "Store Accumulator in Memory". -/
  | sta
  /-- STX, "Store Index X in Memory". -/
  | stx
  /-- STY, "Store Index Y in Memory". -/
  | sty
  /-- TAX, "Transfer Accumulator to Index X". -/
  | tax
  /-- TAY, "Transfer Accumulator to Index Y". -/
  | tay
  /-- TSX, "Transfer Stack Pointer to Index X". -/
  | tsx
  /-- TXA, "Transfer Index X to Accumulator". -/
  | txa
  /-- TXS, "Transfer Index X to Stack Pointer". -/
  | txs
  /-- TYA, "Transfer Index Y to Accumulator". -/
  | tya
deriving DecidableEq, Repr

/-- The 13 addressing modes (30_encoding R92). -/
inductive Mode where
  /-- Implied (R100). -/
  | imp
  /-- Accumulator (R101). -/
  | acc
  /-- Immediate (R102). -/
  | imm
  /-- Zero Page (R103). -/
  | zp
  /-- Zero Page,X (R104). -/
  | zpx
  /-- Zero Page,Y (R105). -/
  | zpy
  /-- Absolute (R106). -/
  | abs
  /-- Absolute,X (R107). -/
  | abx
  /-- Absolute,Y (R108). -/
  | aby
  /-- (Indirect,X) (R109). -/
  | izx
  /-- (Indirect),Y (R110). -/
  | izy
  /-- Relative (R111). -/
  | rel
  /-- Indirect (R112). -/
  | ind
deriving DecidableEq, Repr

/-- The instructions: one constructor per assigned opcode byte (30_encoding R96), with its operand byte `b1` or its
operand word `{b2, b1}` (R90). Every value of an operand is legal (R98). -/
inductive Instr where
  /-- `ADC #Oper`, Immediate, opcode 0x69. -/
  | adcImm (b1 : Byte)
  /-- `ADC Oper`, Zero Page, opcode 0x65. -/
  | adcZp (b1 : Byte)
  /-- `ADC Oper,X`, Zero Page,X, opcode 0x75. -/
  | adcZpx (b1 : Byte)
  /-- `ADC Oper`, Absolute, opcode 0x6D. -/
  | adcAbs (oper : Word)
  /-- `ADC Oper,X`, Absolute,X, opcode 0x7D. -/
  | adcAbx (oper : Word)
  /-- `ADC Oper,Y`, Absolute,Y, opcode 0x79. -/
  | adcAby (oper : Word)
  /-- `ADC (Oper,X)`, (Indirect,X), opcode 0x61. -/
  | adcIzx (b1 : Byte)
  /-- `ADC (Oper),Y`, (Indirect),Y, opcode 0x71. -/
  | adcIzy (b1 : Byte)
  /-- `AND #Oper`, Immediate, opcode 0x29. -/
  | andImm (b1 : Byte)
  /-- `AND Oper`, Zero Page, opcode 0x25. -/
  | andZp (b1 : Byte)
  /-- `AND Oper,X`, Zero Page,X, opcode 0x35. -/
  | andZpx (b1 : Byte)
  /-- `AND Oper`, Absolute, opcode 0x2D. -/
  | andAbs (oper : Word)
  /-- `AND Oper,X`, Absolute,X, opcode 0x3D. -/
  | andAbx (oper : Word)
  /-- `AND Oper,Y`, Absolute,Y, opcode 0x39. -/
  | andAby (oper : Word)
  /-- `AND (Oper,X)`, (Indirect,X), opcode 0x21. -/
  | andIzx (b1 : Byte)
  /-- `AND (Oper),Y`, (Indirect),Y, opcode 0x31. -/
  | andIzy (b1 : Byte)
  /-- `ASL A`, Accumulator, opcode 0x0A. -/
  | aslAcc
  /-- `ASL Oper`, Zero Page, opcode 0x06. -/
  | aslZp (b1 : Byte)
  /-- `ASL Oper,X`, Zero Page,X, opcode 0x16. -/
  | aslZpx (b1 : Byte)
  /-- `ASL Oper`, Absolute, opcode 0x0E. -/
  | aslAbs (oper : Word)
  /-- `ASL Oper,X`, Absolute,X, opcode 0x1E. -/
  | aslAbx (oper : Word)
  /-- `BCC Oper`, Relative, opcode 0x90. -/
  | bcc (b1 : Byte)
  /-- `BCS Oper`, Relative, opcode 0xB0. -/
  | bcs (b1 : Byte)
  /-- `BEQ Oper`, Relative, opcode 0xF0. -/
  | beq (b1 : Byte)
  /-- `BIT Oper`, Zero Page, opcode 0x24. -/
  | bitZp (b1 : Byte)
  /-- `BIT Oper`, Absolute, opcode 0x2C. -/
  | bitAbs (oper : Word)
  /-- `BMI Oper`, Relative, opcode 0x30. -/
  | bmi (b1 : Byte)
  /-- `BNE Oper`, Relative, opcode 0xD0. -/
  | bne (b1 : Byte)
  /-- `BPL Oper`, Relative, opcode 0x10. -/
  | bpl (b1 : Byte)
  /-- `BRK`, Implied, opcode 0x00. -/
  | brk
  /-- `BVC Oper`, Relative, opcode 0x50. -/
  | bvc (b1 : Byte)
  /-- `BVS Oper`, Relative, opcode 0x70. -/
  | bvs (b1 : Byte)
  /-- `CLC`, Implied, opcode 0x18. -/
  | clc
  /-- `CLD`, Implied, opcode 0xD8. -/
  | cld
  /-- `CLI`, Implied, opcode 0x58. -/
  | cli
  /-- `CLV`, Implied, opcode 0xB8. -/
  | clv
  /-- `CMP #Oper`, Immediate, opcode 0xC9. -/
  | cmpImm (b1 : Byte)
  /-- `CMP Oper`, Zero Page, opcode 0xC5. -/
  | cmpZp (b1 : Byte)
  /-- `CMP Oper,X`, Zero Page,X, opcode 0xD5. -/
  | cmpZpx (b1 : Byte)
  /-- `CMP Oper`, Absolute, opcode 0xCD. -/
  | cmpAbs (oper : Word)
  /-- `CMP Oper,X`, Absolute,X, opcode 0xDD. -/
  | cmpAbx (oper : Word)
  /-- `CMP Oper,Y`, Absolute,Y, opcode 0xD9. -/
  | cmpAby (oper : Word)
  /-- `CMP (Oper,X)`, (Indirect,X), opcode 0xC1. -/
  | cmpIzx (b1 : Byte)
  /-- `CMP (Oper),Y`, (Indirect),Y, opcode 0xD1. -/
  | cmpIzy (b1 : Byte)
  /-- `CPX #Oper`, Immediate, opcode 0xE0. -/
  | cpxImm (b1 : Byte)
  /-- `CPX Oper`, Zero Page, opcode 0xE4. -/
  | cpxZp (b1 : Byte)
  /-- `CPX Oper`, Absolute, opcode 0xEC. -/
  | cpxAbs (oper : Word)
  /-- `CPY #Oper`, Immediate, opcode 0xC0. -/
  | cpyImm (b1 : Byte)
  /-- `CPY Oper`, Zero Page, opcode 0xC4. -/
  | cpyZp (b1 : Byte)
  /-- `CPY Oper`, Absolute, opcode 0xCC. -/
  | cpyAbs (oper : Word)
  /-- `DEC Oper`, Zero Page, opcode 0xC6. -/
  | decZp (b1 : Byte)
  /-- `DEC Oper,X`, Zero Page,X, opcode 0xD6. -/
  | decZpx (b1 : Byte)
  /-- `DEC Oper`, Absolute, opcode 0xCE. -/
  | decAbs (oper : Word)
  /-- `DEC Oper,X`, Absolute,X, opcode 0xDE. -/
  | decAbx (oper : Word)
  /-- `DEX`, Implied, opcode 0xCA. -/
  | dex
  /-- `DEY`, Implied, opcode 0x88. -/
  | dey
  /-- `EOR #Oper`, Immediate, opcode 0x49. -/
  | eorImm (b1 : Byte)
  /-- `EOR Oper`, Zero Page, opcode 0x45. -/
  | eorZp (b1 : Byte)
  /-- `EOR Oper,X`, Zero Page,X, opcode 0x55. -/
  | eorZpx (b1 : Byte)
  /-- `EOR Oper`, Absolute, opcode 0x4D. -/
  | eorAbs (oper : Word)
  /-- `EOR Oper,X`, Absolute,X, opcode 0x5D. -/
  | eorAbx (oper : Word)
  /-- `EOR Oper,Y`, Absolute,Y, opcode 0x59. -/
  | eorAby (oper : Word)
  /-- `EOR (Oper,X)`, (Indirect,X), opcode 0x41. -/
  | eorIzx (b1 : Byte)
  /-- `EOR (Oper),Y`, (Indirect),Y, opcode 0x51. -/
  | eorIzy (b1 : Byte)
  /-- `INC Oper`, Zero Page, opcode 0xE6. -/
  | incZp (b1 : Byte)
  /-- `INC Oper,X`, Zero Page,X, opcode 0xF6. -/
  | incZpx (b1 : Byte)
  /-- `INC Oper`, Absolute, opcode 0xEE. -/
  | incAbs (oper : Word)
  /-- `INC Oper,X`, Absolute,X, opcode 0xFE. -/
  | incAbx (oper : Word)
  /-- `INX`, Implied, opcode 0xE8. -/
  | inx
  /-- `INY`, Implied, opcode 0xC8. -/
  | iny
  /-- `JMP Oper`, Absolute, opcode 0x4C. -/
  | jmpAbs (oper : Word)
  /-- `JMP (Oper)`, Indirect, opcode 0x6C. -/
  | jmpInd (oper : Word)
  /-- `JSR Oper`, Absolute, opcode 0x20. -/
  | jsr (oper : Word)
  /-- `LDA #Oper`, Immediate, opcode 0xA9. -/
  | ldaImm (b1 : Byte)
  /-- `LDA Oper`, Zero Page, opcode 0xA5. -/
  | ldaZp (b1 : Byte)
  /-- `LDA Oper,X`, Zero Page,X, opcode 0xB5. -/
  | ldaZpx (b1 : Byte)
  /-- `LDA Oper`, Absolute, opcode 0xAD. -/
  | ldaAbs (oper : Word)
  /-- `LDA Oper,X`, Absolute,X, opcode 0xBD. -/
  | ldaAbx (oper : Word)
  /-- `LDA Oper,Y`, Absolute,Y, opcode 0xB9. -/
  | ldaAby (oper : Word)
  /-- `LDA (Oper,X)`, (Indirect,X), opcode 0xA1. -/
  | ldaIzx (b1 : Byte)
  /-- `LDA (Oper),Y`, (Indirect),Y, opcode 0xB1. -/
  | ldaIzy (b1 : Byte)
  /-- `LDX #Oper`, Immediate, opcode 0xA2. -/
  | ldxImm (b1 : Byte)
  /-- `LDX Oper`, Zero Page, opcode 0xA6. -/
  | ldxZp (b1 : Byte)
  /-- `LDX Oper,Y`, Zero Page,Y, opcode 0xB6. -/
  | ldxZpy (b1 : Byte)
  /-- `LDX Oper`, Absolute, opcode 0xAE. -/
  | ldxAbs (oper : Word)
  /-- `LDX Oper,Y`, Absolute,Y, opcode 0xBE. -/
  | ldxAby (oper : Word)
  /-- `LDY #Oper`, Immediate, opcode 0xA0. -/
  | ldyImm (b1 : Byte)
  /-- `LDY Oper`, Zero Page, opcode 0xA4. -/
  | ldyZp (b1 : Byte)
  /-- `LDY Oper,X`, Zero Page,X, opcode 0xB4. -/
  | ldyZpx (b1 : Byte)
  /-- `LDY Oper`, Absolute, opcode 0xAC. -/
  | ldyAbs (oper : Word)
  /-- `LDY Oper,X`, Absolute,X, opcode 0xBC. -/
  | ldyAbx (oper : Word)
  /-- `LSR A`, Accumulator, opcode 0x4A. -/
  | lsrAcc
  /-- `LSR Oper`, Zero Page, opcode 0x46. -/
  | lsrZp (b1 : Byte)
  /-- `LSR Oper,X`, Zero Page,X, opcode 0x56. -/
  | lsrZpx (b1 : Byte)
  /-- `LSR Oper`, Absolute, opcode 0x4E. -/
  | lsrAbs (oper : Word)
  /-- `LSR Oper,X`, Absolute,X, opcode 0x5E. -/
  | lsrAbx (oper : Word)
  /-- `NOP`, Implied, opcode 0xEA. -/
  | nop
  /-- `ORA #Oper`, Immediate, opcode 0x09. -/
  | oraImm (b1 : Byte)
  /-- `ORA Oper`, Zero Page, opcode 0x05. -/
  | oraZp (b1 : Byte)
  /-- `ORA Oper,X`, Zero Page,X, opcode 0x15. -/
  | oraZpx (b1 : Byte)
  /-- `ORA Oper`, Absolute, opcode 0x0D. -/
  | oraAbs (oper : Word)
  /-- `ORA Oper,X`, Absolute,X, opcode 0x1D. -/
  | oraAbx (oper : Word)
  /-- `ORA Oper,Y`, Absolute,Y, opcode 0x19. -/
  | oraAby (oper : Word)
  /-- `ORA (Oper,X)`, (Indirect,X), opcode 0x01. -/
  | oraIzx (b1 : Byte)
  /-- `ORA (Oper),Y`, (Indirect),Y, opcode 0x11. -/
  | oraIzy (b1 : Byte)
  /-- `PHA`, Implied, opcode 0x48. -/
  | pha
  /-- `PHP`, Implied, opcode 0x08. -/
  | php
  /-- `PLA`, Implied, opcode 0x68. -/
  | pla
  /-- `PLP`, Implied, opcode 0x28. -/
  | plp
  /-- `ROL A`, Accumulator, opcode 0x2A. -/
  | rolAcc
  /-- `ROL Oper`, Zero Page, opcode 0x26. -/
  | rolZp (b1 : Byte)
  /-- `ROL Oper,X`, Zero Page,X, opcode 0x36. -/
  | rolZpx (b1 : Byte)
  /-- `ROL Oper`, Absolute, opcode 0x2E. -/
  | rolAbs (oper : Word)
  /-- `ROL Oper,X`, Absolute,X, opcode 0x3E. -/
  | rolAbx (oper : Word)
  /-- `ROR A`, Accumulator, opcode 0x6A. -/
  | rorAcc
  /-- `ROR Oper`, Zero Page, opcode 0x66. -/
  | rorZp (b1 : Byte)
  /-- `ROR Oper,X`, Zero Page,X, opcode 0x76. -/
  | rorZpx (b1 : Byte)
  /-- `ROR Oper`, Absolute, opcode 0x6E. -/
  | rorAbs (oper : Word)
  /-- `ROR Oper,X`, Absolute,X, opcode 0x7E. -/
  | rorAbx (oper : Word)
  /-- `RTI`, Implied, opcode 0x40. -/
  | rti
  /-- `RTS`, Implied, opcode 0x60. -/
  | rts
  /-- `SBC #Oper`, Immediate, opcode 0xE9. -/
  | sbcImm (b1 : Byte)
  /-- `SBC Oper`, Zero Page, opcode 0xE5. -/
  | sbcZp (b1 : Byte)
  /-- `SBC Oper,X`, Zero Page,X, opcode 0xF5. -/
  | sbcZpx (b1 : Byte)
  /-- `SBC Oper`, Absolute, opcode 0xED. -/
  | sbcAbs (oper : Word)
  /-- `SBC Oper,X`, Absolute,X, opcode 0xFD. -/
  | sbcAbx (oper : Word)
  /-- `SBC Oper,Y`, Absolute,Y, opcode 0xF9. -/
  | sbcAby (oper : Word)
  /-- `SBC (Oper,X)`, (Indirect,X), opcode 0xE1. -/
  | sbcIzx (b1 : Byte)
  /-- `SBC (Oper),Y`, (Indirect),Y, opcode 0xF1. -/
  | sbcIzy (b1 : Byte)
  /-- `SEC`, Implied, opcode 0x38. -/
  | sec
  /-- `SED`, Implied, opcode 0xF8. -/
  | sed
  /-- `SEI`, Implied, opcode 0x78. -/
  | sei
  /-- `STA Oper`, Zero Page, opcode 0x85. -/
  | staZp (b1 : Byte)
  /-- `STA Oper,X`, Zero Page,X, opcode 0x95. -/
  | staZpx (b1 : Byte)
  /-- `STA Oper`, Absolute, opcode 0x8D. -/
  | staAbs (oper : Word)
  /-- `STA Oper,X`, Absolute,X, opcode 0x9D. -/
  | staAbx (oper : Word)
  /-- `STA Oper, Y`, Absolute,Y, opcode 0x99. -/
  | staAby (oper : Word)
  /-- `STA (Oper,X)`, (Indirect,X), opcode 0x81. -/
  | staIzx (b1 : Byte)
  /-- `STA (Oper),Y`, (Indirect),Y, opcode 0x91. -/
  | staIzy (b1 : Byte)
  /-- `STX Oper`, Zero Page, opcode 0x86. -/
  | stxZp (b1 : Byte)
  /-- `STX Oper,Y`, Zero Page,Y, opcode 0x96. -/
  | stxZpy (b1 : Byte)
  /-- `STX Oper`, Absolute, opcode 0x8E. -/
  | stxAbs (oper : Word)
  /-- `STY Oper`, Zero Page, opcode 0x84. -/
  | styZp (b1 : Byte)
  /-- `STY Oper,X`, Zero Page,X, opcode 0x94. -/
  | styZpx (b1 : Byte)
  /-- `STY Oper`, Absolute, opcode 0x8C. -/
  | styAbs (oper : Word)
  /-- `TAX`, Implied, opcode 0xAA. -/
  | tax
  /-- `TAY`, Implied, opcode 0xA8. -/
  | tay
  /-- `TSX`, Implied, opcode 0xBA. -/
  | tsx
  /-- `TXA`, Implied, opcode 0x8A. -/
  | txa
  /-- `TXS`, Implied, opcode 0x9A. -/
  | txs
  /-- `TYA`, Implied, opcode 0x98. -/
  | tya
deriving DecidableEq, Repr

end Sys2Proof
end

