-- ==== Sys2Proof/Machine/Arith.lean ====
section
/-! DEFINITION. ADC and SBC (spec 40_arith_logic R130 to R132, R141 to R143). -/

namespace Sys2Proof.Machine

/-- ADC of a fetched operand (40_arith_logic R131, R132, R143). -/
def adc (l : Loaded) : State :=
  let r := adcResult l.after.params.decimalModel l.after.a l.value l.after.p l.after.draws
  { l.after with a := r.value, p := r.flags, draws := r.draws }

/-- SBC of a fetched operand (40_arith_logic R141, R142, R143). -/
def sbc (l : Loaded) : State :=
  let r := sbcResult l.after.params.decimalModel l.after.a l.value l.after.p l.after.draws
  { l.after with a := r.value, p := r.flags, draws := r.draws }

/-- ADC Immediate, opcode 0x69 (40_arith_logic R131; 30_encoding R102). -/
def execAdcImm (b1 : Byte) (s : State) : Result := .next (adc ((s.advance 2).immediate b1))

/-- ADC Zero Page, opcode 0x65 (40_arith_logic R131; 30_encoding R103). -/
def execAdcZp (b1 : Byte) (s : State) : Result := .next (adc ((s.advance 2).zeroPage b1).load)

/-- ADC Zero Page,X, opcode 0x75 (40_arith_logic R131; 30_encoding R104). -/
def execAdcZpx (b1 : Byte) (s : State) : Result := .next (adc ((s.advance 2).zeroPageX b1).load)

/-- ADC Absolute, opcode 0x6D (40_arith_logic R131; 30_encoding R106). -/
def execAdcAbs (oper : Word) (s : State) : Result := .next (adc ((s.advance 3).absolute oper).load)

/-- ADC Absolute,X, opcode 0x7D (40_arith_logic R131; 30_encoding R107). -/
def execAdcAbx (oper : Word) (s : State) : Result := .next (adc ((s.advance 3).absoluteX oper).load)

/-- ADC Absolute,Y, opcode 0x79 (40_arith_logic R131; 30_encoding R108). -/
def execAdcAby (oper : Word) (s : State) : Result := .next (adc ((s.advance 3).absoluteY oper).load)

/-- ADC (Indirect,X), opcode 0x61 (40_arith_logic R131; 30_encoding R109). -/
def execAdcIzx (b1 : Byte) (s : State) : Result := .next (adc ((s.advance 2).indirectX b1).load)

/-- ADC (Indirect),Y, opcode 0x71 (40_arith_logic R131; 30_encoding R110). -/
def execAdcIzy (b1 : Byte) (s : State) : Result := .next (adc ((s.advance 2).indirectY b1).load)

/-- SBC Immediate, opcode 0xE9 (40_arith_logic R141; 30_encoding R102). -/
def execSbcImm (b1 : Byte) (s : State) : Result := .next (sbc ((s.advance 2).immediate b1))

/-- SBC Zero Page, opcode 0xE5 (40_arith_logic R141; 30_encoding R103). -/
def execSbcZp (b1 : Byte) (s : State) : Result := .next (sbc ((s.advance 2).zeroPage b1).load)

/-- SBC Zero Page,X, opcode 0xF5 (40_arith_logic R141; 30_encoding R104). -/
def execSbcZpx (b1 : Byte) (s : State) : Result := .next (sbc ((s.advance 2).zeroPageX b1).load)

/-- SBC Absolute, opcode 0xED (40_arith_logic R141; 30_encoding R106). -/
def execSbcAbs (oper : Word) (s : State) : Result := .next (sbc ((s.advance 3).absolute oper).load)

/-- SBC Absolute,X, opcode 0xFD (40_arith_logic R141; 30_encoding R107). -/
def execSbcAbx (oper : Word) (s : State) : Result := .next (sbc ((s.advance 3).absoluteX oper).load)

/-- SBC Absolute,Y, opcode 0xF9 (40_arith_logic R141; 30_encoding R108). -/
def execSbcAby (oper : Word) (s : State) : Result := .next (sbc ((s.advance 3).absoluteY oper).load)

/-- SBC (Indirect,X), opcode 0xE1 (40_arith_logic R141; 30_encoding R109). -/
def execSbcIzx (b1 : Byte) (s : State) : Result := .next (sbc ((s.advance 2).indirectX b1).load)

/-- SBC (Indirect),Y, opcode 0xF1 (40_arith_logic R141; 30_encoding R110). -/
def execSbcIzy (b1 : Byte) (s : State) : Result := .next (sbc ((s.advance 2).indirectY b1).load)

end Sys2Proof.Machine
end

