-- ==== Sys2Proof/Machine/Branch.lean ====
section
/-! DEFINITION. The eight branches (spec 42_branch R160 to R169). -/

namespace Sys2Proof.Machine

/-- `Branch(cond)` (42_branch R161). -/
def State.branch (s : State) (cond : Bool) (b1 : Byte) : State :=
  if cond then s.jump (relativeTarget s.pc b1) else s.advance 2

/-- BCC Relative, opcode 0x90 (42_branch R162; 30_encoding R111). -/
def execBcc (b1 : Byte) (s : State) : Result := .next (s.branch (!s.p.c) b1)

/-- BCS Relative, opcode 0xB0 (42_branch R163; 30_encoding R111). -/
def execBcs (b1 : Byte) (s : State) : Result := .next (s.branch s.p.c b1)

/-- BEQ Relative, opcode 0xF0 (42_branch R164; 30_encoding R111). -/
def execBeq (b1 : Byte) (s : State) : Result := .next (s.branch s.p.z b1)

/-- BMI Relative, opcode 0x30 (42_branch R165; 30_encoding R111). -/
def execBmi (b1 : Byte) (s : State) : Result := .next (s.branch s.p.n b1)

/-- BNE Relative, opcode 0xD0 (42_branch R166; 30_encoding R111). -/
def execBne (b1 : Byte) (s : State) : Result := .next (s.branch (!s.p.z) b1)

/-- BPL Relative, opcode 0x10 (42_branch R167; 30_encoding R111). -/
def execBpl (b1 : Byte) (s : State) : Result := .next (s.branch (!s.p.n) b1)

/-- BVC Relative, opcode 0x50 (42_branch R168; 30_encoding R111). -/
def execBvc (b1 : Byte) (s : State) : Result := .next (s.branch (!s.p.v) b1)

/-- BVS Relative, opcode 0x70 (42_branch R169; 30_encoding R111). -/
def execBvs (b1 : Byte) (s : State) : Result := .next (s.branch s.p.v b1)

end Sys2Proof.Machine
end

