-- ==== Sys2Proof/Machine/Compare.lean ====
section
/-! DEFINITION. CMP, CPX and CPY (spec 40_arith_logic R135 to R138). -/

namespace Sys2Proof.Machine

/-- CMP of a fetched operand (40_arith_logic R136). -/
def compareA (l : Loaded) : State := l.after.setFlags (l.after.p.compare l.after.a l.value)

/-- CPX of a fetched operand (40_arith_logic R137). -/
def compareX (l : Loaded) : State := l.after.setFlags (l.after.p.compare l.after.x l.value)

/-- CPY of a fetched operand (40_arith_logic R138). -/
def compareY (l : Loaded) : State := l.after.setFlags (l.after.p.compare l.after.y l.value)

/-- CMP Immediate, opcode 0xC9 (40_arith_logic R136; 30_encoding R102). -/
def execCmpImm (b1 : Byte) (s : State) : Result := .next (compareA ((s.advance 2).immediate b1))

/-- CMP Zero Page, opcode 0xC5 (40_arith_logic R136; 30_encoding R103). -/
def execCmpZp (b1 : Byte) (s : State) : Result := .next (compareA ((s.advance 2).zeroPage b1).load)

/-- CMP Zero Page,X, opcode 0xD5 (40_arith_logic R136; 30_encoding R104). -/
def execCmpZpx (b1 : Byte) (s : State) : Result := .next (compareA ((s.advance 2).zeroPageX b1).load)

/-- CMP Absolute, opcode 0xCD (40_arith_logic R136; 30_encoding R106). -/
def execCmpAbs (oper : Word) (s : State) : Result := .next (compareA ((s.advance 3).absolute oper).load)

/-- CMP Absolute,X, opcode 0xDD (40_arith_logic R136; 30_encoding R107). -/
def execCmpAbx (oper : Word) (s : State) : Result := .next (compareA ((s.advance 3).absoluteX oper).load)

/-- CMP Absolute,Y, opcode 0xD9 (40_arith_logic R136; 30_encoding R108). -/
def execCmpAby (oper : Word) (s : State) : Result := .next (compareA ((s.advance 3).absoluteY oper).load)

/-- CMP (Indirect,X), opcode 0xC1 (40_arith_logic R136; 30_encoding R109). -/
def execCmpIzx (b1 : Byte) (s : State) : Result := .next (compareA ((s.advance 2).indirectX b1).load)

/-- CMP (Indirect),Y, opcode 0xD1 (40_arith_logic R136; 30_encoding R110). -/
def execCmpIzy (b1 : Byte) (s : State) : Result := .next (compareA ((s.advance 2).indirectY b1).load)

/-- CPX Immediate, opcode 0xE0 (40_arith_logic R137; 30_encoding R102). -/
def execCpxImm (b1 : Byte) (s : State) : Result := .next (compareX ((s.advance 2).immediate b1))

/-- CPX Zero Page, opcode 0xE4 (40_arith_logic R137; 30_encoding R103). -/
def execCpxZp (b1 : Byte) (s : State) : Result := .next (compareX ((s.advance 2).zeroPage b1).load)

/-- CPX Absolute, opcode 0xEC (40_arith_logic R137; 30_encoding R106). -/
def execCpxAbs (oper : Word) (s : State) : Result := .next (compareX ((s.advance 3).absolute oper).load)

/-- CPY Immediate, opcode 0xC0 (40_arith_logic R138; 30_encoding R102). -/
def execCpyImm (b1 : Byte) (s : State) : Result := .next (compareY ((s.advance 2).immediate b1))

/-- CPY Zero Page, opcode 0xC4 (40_arith_logic R138; 30_encoding R103). -/
def execCpyZp (b1 : Byte) (s : State) : Result := .next (compareY ((s.advance 2).zeroPage b1).load)

/-- CPY Absolute, opcode 0xCC (40_arith_logic R138; 30_encoding R106). -/
def execCpyAbs (oper : Word) (s : State) : Result := .next (compareY ((s.advance 3).absolute oper).load)

end Sys2Proof.Machine
end

