-- ==== Sys2Proof/Machine/FlagSet.lean ====
section
/-! DEFINITION. The seven flag instructions (spec 43_flag R175 to R182). -/

namespace Sys2Proof.Machine

/-- CLC Implied, opcode 0x18 (43_flag R176; 30_encoding R100). -/
def execClc (s : State) : Result := .next ((s.advance 1).setFlags { s.p with c := false })

/-- CLD Implied, opcode 0xD8 (43_flag R177; 30_encoding R100). -/
def execCld (s : State) : Result := .next ((s.advance 1).setFlags { s.p with d := false })

/-- CLI Implied, opcode 0x58 (43_flag R178; 30_encoding R100). -/
def execCli (s : State) : Result := .next ((s.advance 1).setFlags { s.p with i := false })

/-- CLV Implied, opcode 0xB8 (43_flag R179; 30_encoding R100). -/
def execClv (s : State) : Result := .next ((s.advance 1).setFlags { s.p with v := false })

/-- SEC Implied, opcode 0x38 (43_flag R180; 30_encoding R100). -/
def execSec (s : State) : Result := .next ((s.advance 1).setFlags { s.p with c := true })

/-- SED Implied, opcode 0xF8 (43_flag R181; 30_encoding R100). -/
def execSed (s : State) : Result := .next ((s.advance 1).setFlags { s.p with d := true })

/-- SEI Implied, opcode 0x78 (43_flag R182; 30_encoding R100). -/
def execSei (s : State) : Result := .next ((s.advance 1).setFlags { s.p with i := true })

end Sys2Proof.Machine
end

