-- ==== Sys2Proof/Machine/IncDec.lean ====
section
/-! DEFINITION. The increments and decrements (spec 44_incdec R185 to R191). -/

namespace Sys2Proof.Machine

/-- DEC Zero Page, opcode 0xC6 (44_incdec R186; 30_encoding R103). -/
def execDecZp (b1 : Byte) (s : State) : Result := .next (((s.advance 2).zeroPage b1).modify decResult)

/-- DEC Zero Page,X, opcode 0xD6 (44_incdec R186; 30_encoding R104). -/
def execDecZpx (b1 : Byte) (s : State) : Result := .next (((s.advance 2).zeroPageX b1).modify decResult)

/-- DEC Absolute, opcode 0xCE (44_incdec R186; 30_encoding R106). -/
def execDecAbs (oper : Word) (s : State) : Result := .next (((s.advance 3).absolute oper).modify decResult)

/-- DEC Absolute,X, opcode 0xDE (44_incdec R186; 30_encoding R107). -/
def execDecAbx (oper : Word) (s : State) : Result := .next (((s.advance 3).absoluteX oper).modify decResult)

/-- DEX Implied, opcode 0xCA (44_incdec R187; 30_encoding R100). -/
def execDex (s : State) : Result := .next ((s.advance 1).loadX (s.x - 1))

/-- DEY Implied, opcode 0x88 (44_incdec R188; 30_encoding R100). -/
def execDey (s : State) : Result := .next ((s.advance 1).loadY (s.y - 1))

/-- INC Zero Page, opcode 0xE6 (44_incdec R189; 30_encoding R103). -/
def execIncZp (b1 : Byte) (s : State) : Result := .next (((s.advance 2).zeroPage b1).modify incResult)

/-- INC Zero Page,X, opcode 0xF6 (44_incdec R189; 30_encoding R104). -/
def execIncZpx (b1 : Byte) (s : State) : Result := .next (((s.advance 2).zeroPageX b1).modify incResult)

/-- INC Absolute, opcode 0xEE (44_incdec R189; 30_encoding R106). -/
def execIncAbs (oper : Word) (s : State) : Result := .next (((s.advance 3).absolute oper).modify incResult)

/-- INC Absolute,X, opcode 0xFE (44_incdec R189; 30_encoding R107). -/
def execIncAbx (oper : Word) (s : State) : Result := .next (((s.advance 3).absoluteX oper).modify incResult)

/-- INX Implied, opcode 0xE8 (44_incdec R190; 30_encoding R100). -/
def execInx (s : State) : Result := .next ((s.advance 1).loadX (s.x + 1))

/-- INY Implied, opcode 0xC8 (44_incdec R191; 30_encoding R100). -/
def execIny (s : State) : Result := .next ((s.advance 1).loadY (s.y + 1))

end Sys2Proof.Machine
end

