-- ==== Sys2Proof/Machine/JumpSub.lean ====
section
/-! DEFINITION. JMP, JSR and RTS (spec 45_jump_sub R195 to R200). -/

namespace Sys2Proof.Machine

/-- JMP Indirect (45_jump_sub R197; 30_encoding R112). -/
def State.jumpIndirect (s : State) (ptr : Word) : State :=
  let t := s.read16pw ptr
  t.after.jump t.addr

/-- RTS (45_jump_sub R199): the pulled word plus one. -/
def State.returnFromSubroutine (s : State) : State :=
  let t := s.pullWord
  t.after.jump (t.addr + 1)

/-- JMP Absolute, opcode 0x4C (45_jump_sub R196; 30_encoding R106). -/
def execJmpAbs (oper : Word) (s : State) : Result := .next (s.jump oper)

/-- JMP Indirect, opcode 0x6C (45_jump_sub R197; 30_encoding R112). -/
def execJmpInd (oper : Word) (s : State) : Result := .next (s.jumpIndirect oper)

/-- JSR Absolute, opcode 0x20 (45_jump_sub R198; 30_encoding R106). -/
def execJsr (oper : Word) (s : State) : Result := .next ((s.pushWord (s.pc + 2)).jump oper)

/-- RTS Implied, opcode 0x60 (45_jump_sub R199; 30_encoding R100). -/
def execRts (s : State) : Result := .next (s.returnFromSubroutine)

end Sys2Proof.Machine
end

