-- ==== Sys2Proof/Machine/LoadStore.lean ====
section
/-! DEFINITION. The loads and stores (spec 46_load_store R205 to R211). -/

namespace Sys2Proof.Machine

/-- LDA of a fetched operand (46_load_store R206). -/
def lda (l : Loaded) : State := l.after.loadA l.value

/-- LDX of a fetched operand (46_load_store R207). -/
def ldx (l : Loaded) : State := l.after.loadX l.value

/-- LDY of a fetched operand (46_load_store R208). -/
def ldy (l : Loaded) : State := l.after.loadY l.value

/-- LDA Immediate, opcode 0xA9 (46_load_store R206; 30_encoding R102). -/
def execLdaImm (b1 : Byte) (s : State) : Result := .next (lda ((s.advance 2).immediate b1))

/-- LDA Zero Page, opcode 0xA5 (46_load_store R206; 30_encoding R103). -/
def execLdaZp (b1 : Byte) (s : State) : Result := .next (lda ((s.advance 2).zeroPage b1).load)

/-- LDA Zero Page,X, opcode 0xB5 (46_load_store R206; 30_encoding R104). -/
def execLdaZpx (b1 : Byte) (s : State) : Result := .next (lda ((s.advance 2).zeroPageX b1).load)

/-- LDA Absolute, opcode 0xAD (46_load_store R206; 30_encoding R106). -/
def execLdaAbs (oper : Word) (s : State) : Result := .next (lda ((s.advance 3).absolute oper).load)

/-- LDA Absolute,X, opcode 0xBD (46_load_store R206; 30_encoding R107). -/
def execLdaAbx (oper : Word) (s : State) : Result := .next (lda ((s.advance 3).absoluteX oper).load)

/-- LDA Absolute,Y, opcode 0xB9 (46_load_store R206; 30_encoding R108). -/
def execLdaAby (oper : Word) (s : State) : Result := .next (lda ((s.advance 3).absoluteY oper).load)

/-- LDA (Indirect,X), opcode 0xA1 (46_load_store R206; 30_encoding R109). -/
def execLdaIzx (b1 : Byte) (s : State) : Result := .next (lda ((s.advance 2).indirectX b1).load)

/-- LDA (Indirect),Y, opcode 0xB1 (46_load_store R206; 30_encoding R110). -/
def execLdaIzy (b1 : Byte) (s : State) : Result := .next (lda ((s.advance 2).indirectY b1).load)

/-- LDX Immediate, opcode 0xA2 (46_load_store R207; 30_encoding R102). -/
def execLdxImm (b1 : Byte) (s : State) : Result := .next (ldx ((s.advance 2).immediate b1))

/-- LDX Zero Page, opcode 0xA6 (46_load_store R207; 30_encoding R103). -/
def execLdxZp (b1 : Byte) (s : State) : Result := .next (ldx ((s.advance 2).zeroPage b1).load)

/-- LDX Zero Page,Y, opcode 0xB6 (46_load_store R207; 30_encoding R105). -/
def execLdxZpy (b1 : Byte) (s : State) : Result := .next (ldx ((s.advance 2).zeroPageY b1).load)

/-- LDX Absolute, opcode 0xAE (46_load_store R207; 30_encoding R106). -/
def execLdxAbs (oper : Word) (s : State) : Result := .next (ldx ((s.advance 3).absolute oper).load)

/-- LDX Absolute,Y, opcode 0xBE (46_load_store R207; 30_encoding R108). -/
def execLdxAby (oper : Word) (s : State) : Result := .next (ldx ((s.advance 3).absoluteY oper).load)

/-- LDY Immediate, opcode 0xA0 (46_load_store R208; 30_encoding R102). -/
def execLdyImm (b1 : Byte) (s : State) : Result := .next (ldy ((s.advance 2).immediate b1))

/-- LDY Zero Page, opcode 0xA4 (46_load_store R208; 30_encoding R103). -/
def execLdyZp (b1 : Byte) (s : State) : Result := .next (ldy ((s.advance 2).zeroPage b1).load)

/-- LDY Zero Page,X, opcode 0xB4 (46_load_store R208; 30_encoding R104). -/
def execLdyZpx (b1 : Byte) (s : State) : Result := .next (ldy ((s.advance 2).zeroPageX b1).load)

/-- LDY Absolute, opcode 0xAC (46_load_store R208; 30_encoding R106). -/
def execLdyAbs (oper : Word) (s : State) : Result := .next (ldy ((s.advance 3).absolute oper).load)

/-- LDY Absolute,X, opcode 0xBC (46_load_store R208; 30_encoding R107). -/
def execLdyAbx (oper : Word) (s : State) : Result := .next (ldy ((s.advance 3).absoluteX oper).load)

/-- STA Zero Page, opcode 0x85 (46_load_store R209; 30_encoding R103). -/
def execStaZp (b1 : Byte) (s : State) : Result := .next (((s.advance 2).zeroPage b1).store s.a)

/-- STA Zero Page,X, opcode 0x95 (46_load_store R209; 30_encoding R104). -/
def execStaZpx (b1 : Byte) (s : State) : Result := .next (((s.advance 2).zeroPageX b1).store s.a)

/-- STA Absolute, opcode 0x8D (46_load_store R209; 30_encoding R106). -/
def execStaAbs (oper : Word) (s : State) : Result := .next (((s.advance 3).absolute oper).store s.a)

/-- STA Absolute,X, opcode 0x9D (46_load_store R209; 30_encoding R107). -/
def execStaAbx (oper : Word) (s : State) : Result := .next (((s.advance 3).absoluteX oper).store s.a)

/-- STA Absolute,Y, opcode 0x99 (46_load_store R209; 30_encoding R108). -/
def execStaAby (oper : Word) (s : State) : Result := .next (((s.advance 3).absoluteY oper).store s.a)

/-- STA (Indirect,X), opcode 0x81 (46_load_store R209; 30_encoding R109). -/
def execStaIzx (b1 : Byte) (s : State) : Result := .next (((s.advance 2).indirectX b1).store s.a)

/-- STA (Indirect),Y, opcode 0x91 (46_load_store R209; 30_encoding R110). -/
def execStaIzy (b1 : Byte) (s : State) : Result := .next (((s.advance 2).indirectY b1).store s.a)

/-- STX Zero Page, opcode 0x86 (46_load_store R210; 30_encoding R103). -/
def execStxZp (b1 : Byte) (s : State) : Result := .next (((s.advance 2).zeroPage b1).store s.x)

/-- STX Zero Page,Y, opcode 0x96 (46_load_store R210; 30_encoding R105). -/
def execStxZpy (b1 : Byte) (s : State) : Result := .next (((s.advance 2).zeroPageY b1).store s.x)

/-- STX Absolute, opcode 0x8E (46_load_store R210; 30_encoding R106). -/
def execStxAbs (oper : Word) (s : State) : Result := .next (((s.advance 3).absolute oper).store s.x)

/-- STY Zero Page, opcode 0x84 (46_load_store R211; 30_encoding R103). -/
def execStyZp (b1 : Byte) (s : State) : Result := .next (((s.advance 2).zeroPage b1).store s.y)

/-- STY Zero Page,X, opcode 0x94 (46_load_store R211; 30_encoding R104). -/
def execStyZpx (b1 : Byte) (s : State) : Result := .next (((s.advance 2).zeroPageX b1).store s.y)

/-- STY Absolute, opcode 0x8C (46_load_store R211; 30_encoding R106). -/
def execStyAbs (oper : Word) (s : State) : Result := .next (((s.advance 3).absolute oper).store s.y)

end Sys2Proof.Machine
end

