-- ==== Sys2Proof/Machine/Logic.lean ====
section
/-! DEFINITION. AND, BIT, EOR and ORA (spec 40_arith_logic R133, R134, R139, R140). -/

namespace Sys2Proof.Machine

/-- AND of a fetched operand (40_arith_logic R133). -/
def andA (l : Loaded) : State := l.after.loadA (l.after.a &&& l.value)

/-- EOR of a fetched operand (40_arith_logic R139). -/
def eorA (l : Loaded) : State := l.after.loadA (l.after.a ^^^ l.value)

/-- ORA of a fetched operand (40_arith_logic R140). -/
def oraA (l : Loaded) : State := l.after.loadA (l.after.a ||| l.value)

/-- BIT of a fetched operand (40_arith_logic R134): only N, V and Z are written. -/
def bit (l : Loaded) : State := l.after.setFlags (l.after.p.bitTest l.after.a l.value)

/-- AND Immediate, opcode 0x29 (40_arith_logic R133; 30_encoding R102). -/
def execAndImm (b1 : Byte) (s : State) : Result := .next (andA ((s.advance 2).immediate b1))

/-- AND Zero Page, opcode 0x25 (40_arith_logic R133; 30_encoding R103). -/
def execAndZp (b1 : Byte) (s : State) : Result := .next (andA ((s.advance 2).zeroPage b1).load)

/-- AND Zero Page,X, opcode 0x35 (40_arith_logic R133; 30_encoding R104). -/
def execAndZpx (b1 : Byte) (s : State) : Result := .next (andA ((s.advance 2).zeroPageX b1).load)

/-- AND Absolute, opcode 0x2D (40_arith_logic R133; 30_encoding R106). -/
def execAndAbs (oper : Word) (s : State) : Result := .next (andA ((s.advance 3).absolute oper).load)

/-- AND Absolute,X, opcode 0x3D (40_arith_logic R133; 30_encoding R107). -/
def execAndAbx (oper : Word) (s : State) : Result := .next (andA ((s.advance 3).absoluteX oper).load)

/-- AND Absolute,Y, opcode 0x39 (40_arith_logic R133; 30_encoding R108). -/
def execAndAby (oper : Word) (s : State) : Result := .next (andA ((s.advance 3).absoluteY oper).load)

/-- AND (Indirect,X), opcode 0x21 (40_arith_logic R133; 30_encoding R109). -/
def execAndIzx (b1 : Byte) (s : State) : Result := .next (andA ((s.advance 2).indirectX b1).load)

/-- AND (Indirect),Y, opcode 0x31 (40_arith_logic R133; 30_encoding R110). -/
def execAndIzy (b1 : Byte) (s : State) : Result := .next (andA ((s.advance 2).indirectY b1).load)

/-- BIT Zero Page, opcode 0x24 (40_arith_logic R134; 30_encoding R103). -/
def execBitZp (b1 : Byte) (s : State) : Result := .next (bit ((s.advance 2).zeroPage b1).load)

/-- BIT Absolute, opcode 0x2C (40_arith_logic R134; 30_encoding R106). -/
def execBitAbs (oper : Word) (s : State) : Result := .next (bit ((s.advance 3).absolute oper).load)

/-- EOR Immediate, opcode 0x49 (40_arith_logic R139; 30_encoding R102). -/
def execEorImm (b1 : Byte) (s : State) : Result := .next (eorA ((s.advance 2).immediate b1))

/-- EOR Zero Page, opcode 0x45 (40_arith_logic R139; 30_encoding R103). -/
def execEorZp (b1 : Byte) (s : State) : Result := .next (eorA ((s.advance 2).zeroPage b1).load)

/-- EOR Zero Page,X, opcode 0x55 (40_arith_logic R139; 30_encoding R104). -/
def execEorZpx (b1 : Byte) (s : State) : Result := .next (eorA ((s.advance 2).zeroPageX b1).load)

/-- EOR Absolute, opcode 0x4D (40_arith_logic R139; 30_encoding R106). -/
def execEorAbs (oper : Word) (s : State) : Result := .next (eorA ((s.advance 3).absolute oper).load)

/-- EOR Absolute,X, opcode 0x5D (40_arith_logic R139; 30_encoding R107). -/
def execEorAbx (oper : Word) (s : State) : Result := .next (eorA ((s.advance 3).absoluteX oper).load)

/-- EOR Absolute,Y, opcode 0x59 (40_arith_logic R139; 30_encoding R108). -/
def execEorAby (oper : Word) (s : State) : Result := .next (eorA ((s.advance 3).absoluteY oper).load)

/-- EOR (Indirect,X), opcode 0x41 (40_arith_logic R139; 30_encoding R109). -/
def execEorIzx (b1 : Byte) (s : State) : Result := .next (eorA ((s.advance 2).indirectX b1).load)

/-- EOR (Indirect),Y, opcode 0x51 (40_arith_logic R139; 30_encoding R110). -/
def execEorIzy (b1 : Byte) (s : State) : Result := .next (eorA ((s.advance 2).indirectY b1).load)

/-- ORA Immediate, opcode 0x09 (40_arith_logic R140; 30_encoding R102). -/
def execOraImm (b1 : Byte) (s : State) : Result := .next (oraA ((s.advance 2).immediate b1))

/-- ORA Zero Page, opcode 0x05 (40_arith_logic R140; 30_encoding R103). -/
def execOraZp (b1 : Byte) (s : State) : Result := .next (oraA ((s.advance 2).zeroPage b1).load)

/-- ORA Zero Page,X, opcode 0x15 (40_arith_logic R140; 30_encoding R104). -/
def execOraZpx (b1 : Byte) (s : State) : Result := .next (oraA ((s.advance 2).zeroPageX b1).load)

/-- ORA Absolute, opcode 0x0D (40_arith_logic R140; 30_encoding R106). -/
def execOraAbs (oper : Word) (s : State) : Result := .next (oraA ((s.advance 3).absolute oper).load)

/-- ORA Absolute,X, opcode 0x1D (40_arith_logic R140; 30_encoding R107). -/
def execOraAbx (oper : Word) (s : State) : Result := .next (oraA ((s.advance 3).absoluteX oper).load)

/-- ORA Absolute,Y, opcode 0x19 (40_arith_logic R140; 30_encoding R108). -/
def execOraAby (oper : Word) (s : State) : Result := .next (oraA ((s.advance 3).absoluteY oper).load)

/-- ORA (Indirect,X), opcode 0x01 (40_arith_logic R140; 30_encoding R109). -/
def execOraIzx (b1 : Byte) (s : State) : Result := .next (oraA ((s.advance 2).indirectX b1).load)

/-- ORA (Indirect),Y, opcode 0x11 (40_arith_logic R140; 30_encoding R110). -/
def execOraIzy (b1 : Byte) (s : State) : Result := .next (oraA ((s.advance 2).indirectY b1).load)

end Sys2Proof.Machine
end

