-- ==== Sys2Proof/Machine/Shift.lean ====
section
/-! DEFINITION. ASL, LSR, ROL and ROR (spec 41_shift_rotate R150 to R154). -/

namespace Sys2Proof.Machine

/-- ASL Accumulator, opcode 0x0A (41_shift_rotate R151; 30_encoding R101). -/
def execAslAcc (s : State) : Result := .next ((s.advance 1).modifyA aslResult)

/-- ASL Zero Page, opcode 0x06 (41_shift_rotate R151; 30_encoding R103). -/
def execAslZp (b1 : Byte) (s : State) : Result := .next (((s.advance 2).zeroPage b1).modify aslResult)

/-- ASL Zero Page,X, opcode 0x16 (41_shift_rotate R151; 30_encoding R104). -/
def execAslZpx (b1 : Byte) (s : State) : Result := .next (((s.advance 2).zeroPageX b1).modify aslResult)

/-- ASL Absolute, opcode 0x0E (41_shift_rotate R151; 30_encoding R106). -/
def execAslAbs (oper : Word) (s : State) : Result := .next (((s.advance 3).absolute oper).modify aslResult)

/-- ASL Absolute,X, opcode 0x1E (41_shift_rotate R151; 30_encoding R107). -/
def execAslAbx (oper : Word) (s : State) : Result := .next (((s.advance 3).absoluteX oper).modify aslResult)

/-- LSR Accumulator, opcode 0x4A (41_shift_rotate R152; 30_encoding R101). -/
def execLsrAcc (s : State) : Result := .next ((s.advance 1).modifyA lsrResult)

/-- LSR Zero Page, opcode 0x46 (41_shift_rotate R152; 30_encoding R103). -/
def execLsrZp (b1 : Byte) (s : State) : Result := .next (((s.advance 2).zeroPage b1).modify lsrResult)

/-- LSR Zero Page,X, opcode 0x56 (41_shift_rotate R152; 30_encoding R104). -/
def execLsrZpx (b1 : Byte) (s : State) : Result := .next (((s.advance 2).zeroPageX b1).modify lsrResult)

/-- LSR Absolute, opcode 0x4E (41_shift_rotate R152; 30_encoding R106). -/
def execLsrAbs (oper : Word) (s : State) : Result := .next (((s.advance 3).absolute oper).modify lsrResult)

/-- LSR Absolute,X, opcode 0x5E (41_shift_rotate R152; 30_encoding R107). -/
def execLsrAbx (oper : Word) (s : State) : Result := .next (((s.advance 3).absoluteX oper).modify lsrResult)

/-- ROL Accumulator, opcode 0x2A (41_shift_rotate R153; 30_encoding R101). -/
def execRolAcc (s : State) : Result := .next ((s.advance 1).modifyA rolResult)

/-- ROL Zero Page, opcode 0x26 (41_shift_rotate R153; 30_encoding R103). -/
def execRolZp (b1 : Byte) (s : State) : Result := .next (((s.advance 2).zeroPage b1).modify rolResult)

/-- ROL Zero Page,X, opcode 0x36 (41_shift_rotate R153; 30_encoding R104). -/
def execRolZpx (b1 : Byte) (s : State) : Result := .next (((s.advance 2).zeroPageX b1).modify rolResult)

/-- ROL Absolute, opcode 0x2E (41_shift_rotate R153; 30_encoding R106). -/
def execRolAbs (oper : Word) (s : State) : Result := .next (((s.advance 3).absolute oper).modify rolResult)

/-- ROL Absolute,X, opcode 0x3E (41_shift_rotate R153; 30_encoding R107). -/
def execRolAbx (oper : Word) (s : State) : Result := .next (((s.advance 3).absoluteX oper).modify rolResult)

/-- ROR Accumulator, opcode 0x6A (41_shift_rotate R154; 30_encoding R101). -/
def execRorAcc (s : State) : Result := .next ((s.advance 1).modifyA rorResult)

/-- ROR Zero Page, opcode 0x66 (41_shift_rotate R154; 30_encoding R103). -/
def execRorZp (b1 : Byte) (s : State) : Result := .next (((s.advance 2).zeroPage b1).modify rorResult)

/-- ROR Zero Page,X, opcode 0x76 (41_shift_rotate R154; 30_encoding R104). -/
def execRorZpx (b1 : Byte) (s : State) : Result := .next (((s.advance 2).zeroPageX b1).modify rorResult)

/-- ROR Absolute, opcode 0x6E (41_shift_rotate R154; 30_encoding R106). -/
def execRorAbs (oper : Word) (s : State) : Result := .next (((s.advance 3).absolute oper).modify rorResult)

/-- ROR Absolute,X, opcode 0x7E (41_shift_rotate R154; 30_encoding R107). -/
def execRorAbx (oper : Word) (s : State) : Result := .next (((s.advance 3).absoluteX oper).modify rorResult)

end Sys2Proof.Machine
end

