-- ==== Sys2Proof/Machine/StackTransfer.lean ====
section
/-! DEFINITION. The stack instructions and the transfers (spec 47_stack_transfer R215 to R225). -/

namespace Sys2Proof.Machine

/-- PLA (47_stack_transfer R218): N and Z are written when `PLA_SETS_NZ` is true. -/
def State.pullA (s : State) : State :=
  let v := s.pull
  if s.params.plaSetsNZ then v.after.loadA v.value else { v.after with a := v.value }

/-- PLP (47_stack_transfer R219). -/
def State.pullP (s : State) : State :=
  let v := s.pull
  v.after.setFlags (Flags.unpack v.value)

/-- PHA Implied, opcode 0x48 (47_stack_transfer R216; 30_encoding R100). -/
def execPha (s : State) : Result := .next ((s.advance 1).push s.a)

/-- PHP Implied, opcode 0x08 (47_stack_transfer R217; 30_encoding R100). -/
def execPhp (s : State) : Result := .next ((s.advance 1).push (s.p.pack true))

/-- PLA Implied, opcode 0x68 (47_stack_transfer R218; 30_encoding R100). -/
def execPla (s : State) : Result := .next ((s.advance 1).pullA)

/-- PLP Implied, opcode 0x28 (47_stack_transfer R219; 30_encoding R100). -/
def execPlp (s : State) : Result := .next ((s.advance 1).pullP)

/-- TAX Implied, opcode 0xAA (47_stack_transfer R220; 30_encoding R100). -/
def execTax (s : State) : Result := .next ((s.advance 1).loadX s.a)

/-- TAY Implied, opcode 0xA8 (47_stack_transfer R221; 30_encoding R100). -/
def execTay (s : State) : Result := .next ((s.advance 1).loadY s.a)

/-- TSX Implied, opcode 0xBA (47_stack_transfer R222; 30_encoding R100). -/
def execTsx (s : State) : Result := .next ((s.advance 1).loadX s.sp)

/-- TXA Implied, opcode 0x8A (47_stack_transfer R223; 30_encoding R100). -/
def execTxa (s : State) : Result := .next ((s.advance 1).loadA s.x)

/-- TXS Implied, opcode 0x9A (47_stack_transfer R224; 30_encoding R100). -/
def execTxs (s : State) : Result := .next ({ s.advance 1 with sp := s.x })

/-- TYA Implied, opcode 0x98 (47_stack_transfer R225; 30_encoding R100). -/
def execTya (s : State) : Result := .next ((s.advance 1).loadA s.y)

end Sys2Proof.Machine
end

