-- ==== Sys2Proof/Machine/System.lean ====
section
/-! DEFINITION. BRK, NOP and RTI (spec 48_system R230 to R233). -/

namespace Sys2Proof.Machine

/-- BRK Implied, opcode 0x00 (48_system R230; 30_encoding R100). -/
def execBrk (s : State) : Result := .next (s.interruptEntry (s.pc + 2) true irqVector)

/-- NOP Implied, opcode 0xEA (48_system R231; 30_encoding R100). -/
def execNop (s : State) : Result := .next (s.advance 1)

/-- RTI Implied, opcode 0x40 (48_system R232; 30_encoding R100). -/
def execRti (s : State) : Result := .next (s.returnFromInterrupt)

end Sys2Proof.Machine
end

