-- ==== Sys2Proof/Machine/Dispatch.lean ====
section
/-! DEFINITION. exec: one arm per constructor of Instr, each one direct call of that instruction's meaning. -/

namespace Sys2Proof.Machine

def exec (i : Instr) (s : State) : Host.Outcome State Fault Refusal :=
  match i with
  | .adcImm b1 => Sys2Proof.Machine.execAdcImm b1 s
  | .adcZp b1 => Sys2Proof.Machine.execAdcZp b1 s
  | .adcZpx b1 => Sys2Proof.Machine.execAdcZpx b1 s
  | .adcAbs oper => Sys2Proof.Machine.execAdcAbs oper s
  | .adcAbx oper => Sys2Proof.Machine.execAdcAbx oper s
  | .adcAby oper => Sys2Proof.Machine.execAdcAby oper s
  | .adcIzx b1 => Sys2Proof.Machine.execAdcIzx b1 s
  | .adcIzy b1 => Sys2Proof.Machine.execAdcIzy b1 s
  | .andImm b1 => Sys2Proof.Machine.execAndImm b1 s
  | .andZp b1 => Sys2Proof.Machine.execAndZp b1 s
  | .andZpx b1 => Sys2Proof.Machine.execAndZpx b1 s
  | .andAbs oper => Sys2Proof.Machine.execAndAbs oper s
  | .andAbx oper => Sys2Proof.Machine.execAndAbx oper s
  | .andAby oper => Sys2Proof.Machine.execAndAby oper s
  | .andIzx b1 => Sys2Proof.Machine.execAndIzx b1 s
  | .andIzy b1 => Sys2Proof.Machine.execAndIzy b1 s
  | .aslAcc => Sys2Proof.Machine.execAslAcc s
  | .aslZp b1 => Sys2Proof.Machine.execAslZp b1 s
  | .aslZpx b1 => Sys2Proof.Machine.execAslZpx b1 s
  | .aslAbs oper => Sys2Proof.Machine.execAslAbs oper s
  | .aslAbx oper => Sys2Proof.Machine.execAslAbx oper s
  | .bcc b1 => Sys2Proof.Machine.execBcc b1 s
  | .bcs b1 => Sys2Proof.Machine.execBcs b1 s
  | .beq b1 => Sys2Proof.Machine.execBeq b1 s
  | .bitZp b1 => Sys2Proof.Machine.execBitZp b1 s
  | .bitAbs oper => Sys2Proof.Machine.execBitAbs oper s
  | .bmi b1 => Sys2Proof.Machine.execBmi b1 s
  | .bne b1 => Sys2Proof.Machine.execBne b1 s
  | .bpl b1 => Sys2Proof.Machine.execBpl b1 s
  | .brk => Sys2Proof.Machine.execBrk s
  | .bvc b1 => Sys2Proof.Machine.execBvc b1 s
  | .bvs b1 => Sys2Proof.Machine.execBvs b1 s
  | .clc => Sys2Proof.Machine.execClc s
  | .cld => Sys2Proof.Machine.execCld s
  | .cli => Sys2Proof.Machine.execCli s
  | .clv => Sys2Proof.Machine.execClv s
  | .cmpImm b1 => Sys2Proof.Machine.execCmpImm b1 s
  | .cmpZp b1 => Sys2Proof.Machine.execCmpZp b1 s
  | .cmpZpx b1 => Sys2Proof.Machine.execCmpZpx b1 s
  | .cmpAbs oper => Sys2Proof.Machine.execCmpAbs oper s
  | .cmpAbx oper => Sys2Proof.Machine.execCmpAbx oper s
  | .cmpAby oper => Sys2Proof.Machine.execCmpAby oper s
  | .cmpIzx b1 => Sys2Proof.Machine.execCmpIzx b1 s
  | .cmpIzy b1 => Sys2Proof.Machine.execCmpIzy b1 s
  | .cpxImm b1 => Sys2Proof.Machine.execCpxImm b1 s
  | .cpxZp b1 => Sys2Proof.Machine.execCpxZp b1 s
  | .cpxAbs oper => Sys2Proof.Machine.execCpxAbs oper s
  | .cpyImm b1 => Sys2Proof.Machine.execCpyImm b1 s
  | .cpyZp b1 => Sys2Proof.Machine.execCpyZp b1 s
  | .cpyAbs oper => Sys2Proof.Machine.execCpyAbs oper s
  | .decZp b1 => Sys2Proof.Machine.execDecZp b1 s
  | .decZpx b1 => Sys2Proof.Machine.execDecZpx b1 s
  | .decAbs oper => Sys2Proof.Machine.execDecAbs oper s
  | .decAbx oper => Sys2Proof.Machine.execDecAbx oper s
  | .dex => Sys2Proof.Machine.execDex s
  | .dey => Sys2Proof.Machine.execDey s
  | .eorImm b1 => Sys2Proof.Machine.execEorImm b1 s
  | .eorZp b1 => Sys2Proof.Machine.execEorZp b1 s
  | .eorZpx b1 => Sys2Proof.Machine.execEorZpx b1 s
  | .eorAbs oper => Sys2Proof.Machine.execEorAbs oper s
  | .eorAbx oper => Sys2Proof.Machine.execEorAbx oper s
  | .eorAby oper => Sys2Proof.Machine.execEorAby oper s
  | .eorIzx b1 => Sys2Proof.Machine.execEorIzx b1 s
  | .eorIzy b1 => Sys2Proof.Machine.execEorIzy b1 s
  | .incZp b1 => Sys2Proof.Machine.execIncZp b1 s
  | .incZpx b1 => Sys2Proof.Machine.execIncZpx b1 s
  | .incAbs oper => Sys2Proof.Machine.execIncAbs oper s
  | .incAbx oper => Sys2Proof.Machine.execIncAbx oper s
  | .inx => Sys2Proof.Machine.execInx s
  | .iny => Sys2Proof.Machine.execIny s
  | .jmpAbs oper => Sys2Proof.Machine.execJmpAbs oper s
  | .jmpInd oper => Sys2Proof.Machine.execJmpInd oper s
  | .jsr oper => Sys2Proof.Machine.execJsr oper s
  | .ldaImm b1 => Sys2Proof.Machine.execLdaImm b1 s
  | .ldaZp b1 => Sys2Proof.Machine.execLdaZp b1 s
  | .ldaZpx b1 => Sys2Proof.Machine.execLdaZpx b1 s
  | .ldaAbs oper => Sys2Proof.Machine.execLdaAbs oper s
  | .ldaAbx oper => Sys2Proof.Machine.execLdaAbx oper s
  | .ldaAby oper => Sys2Proof.Machine.execLdaAby oper s
  | .ldaIzx b1 => Sys2Proof.Machine.execLdaIzx b1 s
  | .ldaIzy b1 => Sys2Proof.Machine.execLdaIzy b1 s
  | .ldxImm b1 => Sys2Proof.Machine.execLdxImm b1 s
  | .ldxZp b1 => Sys2Proof.Machine.execLdxZp b1 s
  | .ldxZpy b1 => Sys2Proof.Machine.execLdxZpy b1 s
  | .ldxAbs oper => Sys2Proof.Machine.execLdxAbs oper s
  | .ldxAby oper => Sys2Proof.Machine.execLdxAby oper s
  | .ldyImm b1 => Sys2Proof.Machine.execLdyImm b1 s
  | .ldyZp b1 => Sys2Proof.Machine.execLdyZp b1 s
  | .ldyZpx b1 => Sys2Proof.Machine.execLdyZpx b1 s
  | .ldyAbs oper => Sys2Proof.Machine.execLdyAbs oper s
  | .ldyAbx oper => Sys2Proof.Machine.execLdyAbx oper s
  | .lsrAcc => Sys2Proof.Machine.execLsrAcc s
  | .lsrZp b1 => Sys2Proof.Machine.execLsrZp b1 s
  | .lsrZpx b1 => Sys2Proof.Machine.execLsrZpx b1 s
  | .lsrAbs oper => Sys2Proof.Machine.execLsrAbs oper s
  | .lsrAbx oper => Sys2Proof.Machine.execLsrAbx oper s
  | .nop => Sys2Proof.Machine.execNop s
  | .oraImm b1 => Sys2Proof.Machine.execOraImm b1 s
  | .oraZp b1 => Sys2Proof.Machine.execOraZp b1 s
  | .oraZpx b1 => Sys2Proof.Machine.execOraZpx b1 s
  | .oraAbs oper => Sys2Proof.Machine.execOraAbs oper s
  | .oraAbx oper => Sys2Proof.Machine.execOraAbx oper s
  | .oraAby oper => Sys2Proof.Machine.execOraAby oper s
  | .oraIzx b1 => Sys2Proof.Machine.execOraIzx b1 s
  | .oraIzy b1 => Sys2Proof.Machine.execOraIzy b1 s
  | .pha => Sys2Proof.Machine.execPha s
  | .php => Sys2Proof.Machine.execPhp s
  | .pla => Sys2Proof.Machine.execPla s
  | .plp => Sys2Proof.Machine.execPlp s
  | .rolAcc => Sys2Proof.Machine.execRolAcc s
  | .rolZp b1 => Sys2Proof.Machine.execRolZp b1 s
  | .rolZpx b1 => Sys2Proof.Machine.execRolZpx b1 s
  | .rolAbs oper => Sys2Proof.Machine.execRolAbs oper s
  | .rolAbx oper => Sys2Proof.Machine.execRolAbx oper s
  | .rorAcc => Sys2Proof.Machine.execRorAcc s
  | .rorZp b1 => Sys2Proof.Machine.execRorZp b1 s
  | .rorZpx b1 => Sys2Proof.Machine.execRorZpx b1 s
  | .rorAbs oper => Sys2Proof.Machine.execRorAbs oper s
  | .rorAbx oper => Sys2Proof.Machine.execRorAbx oper s
  | .rti => Sys2Proof.Machine.execRti s
  | .rts => Sys2Proof.Machine.execRts s
  | .sbcImm b1 => Sys2Proof.Machine.execSbcImm b1 s
  | .sbcZp b1 => Sys2Proof.Machine.execSbcZp b1 s
  | .sbcZpx b1 => Sys2Proof.Machine.execSbcZpx b1 s
  | .sbcAbs oper => Sys2Proof.Machine.execSbcAbs oper s
  | .sbcAbx oper => Sys2Proof.Machine.execSbcAbx oper s
  | .sbcAby oper => Sys2Proof.Machine.execSbcAby oper s
  | .sbcIzx b1 => Sys2Proof.Machine.execSbcIzx b1 s
  | .sbcIzy b1 => Sys2Proof.Machine.execSbcIzy b1 s
  | .sec => Sys2Proof.Machine.execSec s
  | .sed => Sys2Proof.Machine.execSed s
  | .sei => Sys2Proof.Machine.execSei s
  | .staZp b1 => Sys2Proof.Machine.execStaZp b1 s
  | .staZpx b1 => Sys2Proof.Machine.execStaZpx b1 s
  | .staAbs oper => Sys2Proof.Machine.execStaAbs oper s
  | .staAbx oper => Sys2Proof.Machine.execStaAbx oper s
  | .staAby oper => Sys2Proof.Machine.execStaAby oper s
  | .staIzx b1 => Sys2Proof.Machine.execStaIzx b1 s
  | .staIzy b1 => Sys2Proof.Machine.execStaIzy b1 s
  | .stxZp b1 => Sys2Proof.Machine.execStxZp b1 s
  | .stxZpy b1 => Sys2Proof.Machine.execStxZpy b1 s
  | .stxAbs oper => Sys2Proof.Machine.execStxAbs oper s
  | .styZp b1 => Sys2Proof.Machine.execStyZp b1 s
  | .styZpx b1 => Sys2Proof.Machine.execStyZpx b1 s
  | .styAbs oper => Sys2Proof.Machine.execStyAbs oper s
  | .tax => Sys2Proof.Machine.execTax s
  | .tay => Sys2Proof.Machine.execTay s
  | .tsx => Sys2Proof.Machine.execTsx s
  | .txa => Sys2Proof.Machine.execTxa s
  | .txs => Sys2Proof.Machine.execTxs s
  | .tya => Sys2Proof.Machine.execTya s

end Sys2Proof.Machine
end

