-- ==== Sys2Proof/Decode.lean ====
section
/-! DEFINITION. The opcode table, the decoder and the encoder (spec 30_encoding R90 to R99; the opcode bytes are those
of R96 with the corrections of R95). -/

namespace Sys2Proof

/-- The note a "No. Cycles" entry carries (70_reset_and_hazards R289 to R291). -/
inductive CyclePenalty where
  | none
  /-- "Add 1 if page boundary is crossed" (R290). -/
  | pageCross
  /-- "Add 1 if branch occurs to same page; add 2 if branch occurs to different page" (R291). -/
  | branch
deriving DecidableEq, Repr

/-- One row of the opcode table (30_encoding R96). -/
structure OpRow where
  opcode : Byte
  mnemonic : Mnemonic
  mode : Mode
  cycles : Nat
  penalty : CyclePenalty
deriving DecidableEq, Repr

/-- The length of an instruction in bytes, by its addressing mode (30_encoding R91). -/
def Mode.bytes : Mode → Nat
  | .imp | .acc => 1
  | .imm | .zp | .zpx | .zpy | .izx | .izy | .rel => 2
  | .abs | .abx | .aby | .ind => 3

/-- The row of an instruction (30_encoding R96). -/
def Instr.row : Instr → OpRow
  | .adcImm _ => ⟨0x69, .adc, .imm, 2, .none⟩
  | .adcZp _ => ⟨0x65, .adc, .zp, 3, .none⟩
  | .adcZpx _ => ⟨0x75, .adc, .zpx, 4, .none⟩
  | .adcAbs _ => ⟨0x6D, .adc, .abs, 4, .none⟩
  | .adcAbx _ => ⟨0x7D, .adc, .abx, 4, .pageCross⟩
  | .adcAby _ => ⟨0x79, .adc, .aby, 4, .pageCross⟩
  | .adcIzx _ => ⟨0x61, .adc, .izx, 6, .none⟩
  | .adcIzy _ => ⟨0x71, .adc, .izy, 5, .pageCross⟩
  | .andImm _ => ⟨0x29, .and, .imm, 2, .none⟩
  | .andZp _ => ⟨0x25, .and, .zp, 3, .none⟩
  | .andZpx _ => ⟨0x35, .and, .zpx, 4, .none⟩
  | .andAbs _ => ⟨0x2D, .and, .abs, 4, .none⟩
  | .andAbx _ => ⟨0x3D, .and, .abx, 4, .pageCross⟩
  | .andAby _ => ⟨0x39, .and, .aby, 4, .pageCross⟩
  | .andIzx _ => ⟨0x21, .and, .izx, 6, .none⟩
  | .andIzy _ => ⟨0x31, .and, .izy, 5, .pageCross⟩
  | .aslAcc => ⟨0x0A, .asl, .acc, 2, .none⟩
  | .aslZp _ => ⟨0x06, .asl, .zp, 5, .none⟩
  | .aslZpx _ => ⟨0x16, .asl, .zpx, 6, .none⟩
  | .aslAbs _ => ⟨0x0E, .asl, .abs, 6, .none⟩
  | .aslAbx _ => ⟨0x1E, .asl, .abx, 7, .none⟩
  | .bcc _ => ⟨0x90, .bcc, .rel, 2, .branch⟩
  | .bcs _ => ⟨0xB0, .bcs, .rel, 2, .branch⟩
  | .beq _ => ⟨0xF0, .beq, .rel, 2, .branch⟩
  | .bitZp _ => ⟨0x24, .bit, .zp, 3, .none⟩
  | .bitAbs _ => ⟨0x2C, .bit, .abs, 4, .none⟩
  | .bmi _ => ⟨0x30, .bmi, .rel, 2, .branch⟩
  | .bne _ => ⟨0xD0, .bne, .rel, 2, .branch⟩
  | .bpl _ => ⟨0x10, .bpl, .rel, 2, .branch⟩
  | .brk => ⟨0x00, .brk, .imp, 7, .none⟩
  | .bvc _ => ⟨0x50, .bvc, .rel, 2, .branch⟩
  | .bvs _ => ⟨0x70, .bvs, .rel, 2, .branch⟩
  | .clc => ⟨0x18, .clc, .imp, 2, .none⟩
  | .cld => ⟨0xD8, .cld, .imp, 2, .none⟩
  | .cli => ⟨0x58, .cli, .imp, 2, .none⟩
  | .clv => ⟨0xB8, .clv, .imp, 2, .none⟩
  | .cmpImm _ => ⟨0xC9, .cmp, .imm, 2, .none⟩
  | .cmpZp _ => ⟨0xC5, .cmp, .zp, 3, .none⟩
  | .cmpZpx _ => ⟨0xD5, .cmp, .zpx, 4, .none⟩
  | .cmpAbs _ => ⟨0xCD, .cmp, .abs, 4, .none⟩
  | .cmpAbx _ => ⟨0xDD, .cmp, .abx, 4, .pageCross⟩
  | .cmpAby _ => ⟨0xD9, .cmp, .aby, 4, .pageCross⟩
  | .cmpIzx _ => ⟨0xC1, .cmp, .izx, 6, .none⟩
  | .cmpIzy _ => ⟨0xD1, .cmp, .izy, 5, .pageCross⟩
  | .cpxImm _ => ⟨0xE0, .cpx, .imm, 2, .none⟩
  | .cpxZp _ => ⟨0xE4, .cpx, .zp, 3, .none⟩
  | .cpxAbs _ => ⟨0xEC, .cpx, .abs, 4, .none⟩
  | .cpyImm _ => ⟨0xC0, .cpy, .imm, 2, .none⟩
  | .cpyZp _ => ⟨0xC4, .cpy, .zp, 3, .none⟩
  | .cpyAbs _ => ⟨0xCC, .cpy, .abs, 4, .none⟩
  | .decZp _ => ⟨0xC6, .dec, .zp, 5, .none⟩
  | .decZpx _ => ⟨0xD6, .dec, .zpx, 6, .none⟩
  | .decAbs _ => ⟨0xCE, .dec, .abs, 6, .none⟩
  | .decAbx _ => ⟨0xDE, .dec, .abx, 7, .none⟩
  | .dex => ⟨0xCA, .dex, .imp, 2, .none⟩
  | .dey => ⟨0x88, .dey, .imp, 2, .none⟩
  | .eorImm _ => ⟨0x49, .eor, .imm, 2, .none⟩
  | .eorZp _ => ⟨0x45, .eor, .zp, 3, .none⟩
  | .eorZpx _ => ⟨0x55, .eor, .zpx, 4, .none⟩
  | .eorAbs _ => ⟨0x4D, .eor, .abs, 4, .none⟩
  | .eorAbx _ => ⟨0x5D, .eor, .abx, 4, .pageCross⟩
  | .eorAby _ => ⟨0x59, .eor, .aby, 4, .pageCross⟩
  | .eorIzx _ => ⟨0x41, .eor, .izx, 6, .none⟩
  | .eorIzy _ => ⟨0x51, .eor, .izy, 5, .pageCross⟩
  | .incZp _ => ⟨0xE6, .inc, .zp, 5, .none⟩
  | .incZpx _ => ⟨0xF6, .inc, .zpx, 6, .none⟩
  | .incAbs _ => ⟨0xEE, .inc, .abs, 6, .none⟩
  | .incAbx _ => ⟨0xFE, .inc, .abx, 7, .none⟩
  | .inx => ⟨0xE8, .inx, .imp, 2, .none⟩
  | .iny => ⟨0xC8, .iny, .imp, 2, .none⟩
  | .jmpAbs _ => ⟨0x4C, .jmp, .abs, 3, .none⟩
  | .jmpInd _ => ⟨0x6C, .jmp, .ind, 5, .none⟩
  | .jsr _ => ⟨0x20, .jsr, .abs, 6, .none⟩
  | .ldaImm _ => ⟨0xA9, .lda, .imm, 2, .none⟩
  | .ldaZp _ => ⟨0xA5, .lda, .zp, 3, .none⟩
  | .ldaZpx _ => ⟨0xB5, .lda, .zpx, 4, .none⟩
  | .ldaAbs _ => ⟨0xAD, .lda, .abs, 4, .none⟩
  | .ldaAbx _ => ⟨0xBD, .lda, .abx, 4, .pageCross⟩
  | .ldaAby _ => ⟨0xB9, .lda, .aby, 4, .pageCross⟩
  | .ldaIzx _ => ⟨0xA1, .lda, .izx, 6, .none⟩
  | .ldaIzy _ => ⟨0xB1, .lda, .izy, 5, .pageCross⟩
  | .ldxImm _ => ⟨0xA2, .ldx, .imm, 2, .none⟩
  | .ldxZp _ => ⟨0xA6, .ldx, .zp, 3, .none⟩
  | .ldxZpy _ => ⟨0xB6, .ldx, .zpy, 4, .none⟩
  | .ldxAbs _ => ⟨0xAE, .ldx, .abs, 4, .none⟩
  | .ldxAby _ => ⟨0xBE, .ldx, .aby, 4, .pageCross⟩
  | .ldyImm _ => ⟨0xA0, .ldy, .imm, 2, .none⟩
  | .ldyZp _ => ⟨0xA4, .ldy, .zp, 3, .none⟩
  | .ldyZpx _ => ⟨0xB4, .ldy, .zpx, 4, .none⟩
  | .ldyAbs _ => ⟨0xAC, .ldy, .abs, 4, .none⟩
  | .ldyAbx _ => ⟨0xBC, .ldy, .abx, 4, .pageCross⟩
  | .lsrAcc => ⟨0x4A, .lsr, .acc, 2, .none⟩
  | .lsrZp _ => ⟨0x46, .lsr, .zp, 5, .none⟩
  | .lsrZpx _ => ⟨0x56, .lsr, .zpx, 6, .none⟩
  | .lsrAbs _ => ⟨0x4E, .lsr, .abs, 6, .none⟩
  | .lsrAbx _ => ⟨0x5E, .lsr, .abx, 7, .none⟩
  | .nop => ⟨0xEA, .nop, .imp, 2, .none⟩
  | .oraImm _ => ⟨0x09, .ora, .imm, 2, .none⟩
  | .oraZp _ => ⟨0x05, .ora, .zp, 3, .none⟩
  | .oraZpx _ => ⟨0x15, .ora, .zpx, 4, .none⟩
  | .oraAbs _ => ⟨0x0D, .ora, .abs, 4, .none⟩
  | .oraAbx _ => ⟨0x1D, .ora, .abx, 4, .pageCross⟩
  | .oraAby _ => ⟨0x19, .ora, .aby, 4, .pageCross⟩
  | .oraIzx _ => ⟨0x01, .ora, .izx, 6, .none⟩
  | .oraIzy _ => ⟨0x11, .ora, .izy, 5, .pageCross⟩
  | .pha => ⟨0x48, .pha, .imp, 3, .none⟩
  | .php => ⟨0x08, .php, .imp, 3, .none⟩
  | .pla => ⟨0x68, .pla, .imp, 4, .none⟩
  | .plp => ⟨0x28, .plp, .imp, 4, .none⟩
  | .rolAcc => ⟨0x2A, .rol, .acc, 2, .none⟩
  | .rolZp _ => ⟨0x26, .rol, .zp, 5, .none⟩
  | .rolZpx _ => ⟨0x36, .rol, .zpx, 6, .none⟩
  | .rolAbs _ => ⟨0x2E, .rol, .abs, 6, .none⟩
  | .rolAbx _ => ⟨0x3E, .rol, .abx, 7, .none⟩
  | .rorAcc => ⟨0x6A, .ror, .acc, 2, .none⟩
  | .rorZp _ => ⟨0x66, .ror, .zp, 5, .none⟩
  | .rorZpx _ => ⟨0x76, .ror, .zpx, 6, .none⟩
  | .rorAbs _ => ⟨0x6E, .ror, .abs, 6, .none⟩
  | .rorAbx _ => ⟨0x7E, .ror, .abx, 7, .none⟩
  | .rti => ⟨0x40, .rti, .imp, 6, .none⟩
  | .rts => ⟨0x60, .rts, .imp, 6, .none⟩
  | .sbcImm _ => ⟨0xE9, .sbc, .imm, 2, .none⟩
  | .sbcZp _ => ⟨0xE5, .sbc, .zp, 3, .none⟩
  | .sbcZpx _ => ⟨0xF5, .sbc, .zpx, 4, .none⟩
  | .sbcAbs _ => ⟨0xED, .sbc, .abs, 4, .none⟩
  | .sbcAbx _ => ⟨0xFD, .sbc, .abx, 4, .pageCross⟩
  | .sbcAby _ => ⟨0xF9, .sbc, .aby, 4, .pageCross⟩
  | .sbcIzx _ => ⟨0xE1, .sbc, .izx, 6, .none⟩
  | .sbcIzy _ => ⟨0xF1, .sbc, .izy, 5, .pageCross⟩
  | .sec => ⟨0x38, .sec, .imp, 2, .none⟩
  | .sed => ⟨0xF8, .sed, .imp, 2, .none⟩
  | .sei => ⟨0x78, .sei, .imp, 2, .none⟩
  | .staZp _ => ⟨0x85, .sta, .zp, 3, .none⟩
  | .staZpx _ => ⟨0x95, .sta, .zpx, 4, .none⟩
  | .staAbs _ => ⟨0x8D, .sta, .abs, 4, .none⟩
  | .staAbx _ => ⟨0x9D, .sta, .abx, 5, .none⟩
  | .staAby _ => ⟨0x99, .sta, .aby, 5, .none⟩
  | .staIzx _ => ⟨0x81, .sta, .izx, 6, .none⟩
  | .staIzy _ => ⟨0x91, .sta, .izy, 6, .none⟩
  | .stxZp _ => ⟨0x86, .stx, .zp, 3, .none⟩
  | .stxZpy _ => ⟨0x96, .stx, .zpy, 4, .none⟩
  | .stxAbs _ => ⟨0x8E, .stx, .abs, 4, .none⟩
  | .styZp _ => ⟨0x84, .sty, .zp, 3, .none⟩
  | .styZpx _ => ⟨0x94, .sty, .zpx, 4, .none⟩
  | .styAbs _ => ⟨0x8C, .sty, .abs, 4, .none⟩
  | .tax => ⟨0xAA, .tax, .imp, 2, .none⟩
  | .tay => ⟨0xA8, .tay, .imp, 2, .none⟩
  | .tsx => ⟨0xBA, .tsx, .imp, 2, .none⟩
  | .txa => ⟨0x8A, .txa, .imp, 2, .none⟩
  | .txs => ⟨0x9A, .txs, .imp, 2, .none⟩
  | .tya => ⟨0x98, .tya, .imp, 2, .none⟩

/-- The operand bytes of an instruction, low byte first (30_encoding R90; 20_memory R50, R51). -/
def Instr.operandBytes : Instr → List Byte
  | .adcImm b1 => [b1]
  | .adcZp b1 => [b1]
  | .adcZpx b1 => [b1]
  | .adcAbs oper => [loByte oper, hiByte oper]
  | .adcAbx oper => [loByte oper, hiByte oper]
  | .adcAby oper => [loByte oper, hiByte oper]
  | .adcIzx b1 => [b1]
  | .adcIzy b1 => [b1]
  | .andImm b1 => [b1]
  | .andZp b1 => [b1]
  | .andZpx b1 => [b1]
  | .andAbs oper => [loByte oper, hiByte oper]
  | .andAbx oper => [loByte oper, hiByte oper]
  | .andAby oper => [loByte oper, hiByte oper]
  | .andIzx b1 => [b1]
  | .andIzy b1 => [b1]
  | .aslAcc => []
  | .aslZp b1 => [b1]
  | .aslZpx b1 => [b1]
  | .aslAbs oper => [loByte oper, hiByte oper]
  | .aslAbx oper => [loByte oper, hiByte oper]
  | .bcc b1 => [b1]
  | .bcs b1 => [b1]
  | .beq b1 => [b1]
  | .bitZp b1 => [b1]
  | .bitAbs oper => [loByte oper, hiByte oper]
  | .bmi b1 => [b1]
  | .bne b1 => [b1]
  | .bpl b1 => [b1]
  | .brk => []
  | .bvc b1 => [b1]
  | .bvs b1 => [b1]
  | .clc => []
  | .cld => []
  | .cli => []
  | .clv => []
  | .cmpImm b1 => [b1]
  | .cmpZp b1 => [b1]
  | .cmpZpx b1 => [b1]
  | .cmpAbs oper => [loByte oper, hiByte oper]
  | .cmpAbx oper => [loByte oper, hiByte oper]
  | .cmpAby oper => [loByte oper, hiByte oper]
  | .cmpIzx b1 => [b1]
  | .cmpIzy b1 => [b1]
  | .cpxImm b1 => [b1]
  | .cpxZp b1 => [b1]
  | .cpxAbs oper => [loByte oper, hiByte oper]
  | .cpyImm b1 => [b1]
  | .cpyZp b1 => [b1]
  | .cpyAbs oper => [loByte oper, hiByte oper]
  | .decZp b1 => [b1]
  | .decZpx b1 => [b1]
  | .decAbs oper => [loByte oper, hiByte oper]
  | .decAbx oper => [loByte oper, hiByte oper]
  | .dex => []
  | .dey => []
  | .eorImm b1 => [b1]
  | .eorZp b1 => [b1]
  | .eorZpx b1 => [b1]
  | .eorAbs oper => [loByte oper, hiByte oper]
  | .eorAbx oper => [loByte oper, hiByte oper]
  | .eorAby oper => [loByte oper, hiByte oper]
  | .eorIzx b1 => [b1]
  | .eorIzy b1 => [b1]
  | .incZp b1 => [b1]
  | .incZpx b1 => [b1]
  | .incAbs oper => [loByte oper, hiByte oper]
  | .incAbx oper => [loByte oper, hiByte oper]
  | .inx => []
  | .iny => []
  | .jmpAbs oper => [loByte oper, hiByte oper]
  | .jmpInd oper => [loByte oper, hiByte oper]
  | .jsr oper => [loByte oper, hiByte oper]
  | .ldaImm b1 => [b1]
  | .ldaZp b1 => [b1]
  | .ldaZpx b1 => [b1]
  | .ldaAbs oper => [loByte oper, hiByte oper]
  | .ldaAbx oper => [loByte oper, hiByte oper]
  | .ldaAby oper => [loByte oper, hiByte oper]
  | .ldaIzx b1 => [b1]
  | .ldaIzy b1 => [b1]
  | .ldxImm b1 => [b1]
  | .ldxZp b1 => [b1]
  | .ldxZpy b1 => [b1]
  | .ldxAbs oper => [loByte oper, hiByte oper]
  | .ldxAby oper => [loByte oper, hiByte oper]
  | .ldyImm b1 => [b1]
  | .ldyZp b1 => [b1]
  | .ldyZpx b1 => [b1]
  | .ldyAbs oper => [loByte oper, hiByte oper]
  | .ldyAbx oper => [loByte oper, hiByte oper]
  | .lsrAcc => []
  | .lsrZp b1 => [b1]
  | .lsrZpx b1 => [b1]
  | .lsrAbs oper => [loByte oper, hiByte oper]
  | .lsrAbx oper => [loByte oper, hiByte oper]
  | .nop => []
  | .oraImm b1 => [b1]
  | .oraZp b1 => [b1]
  | .oraZpx b1 => [b1]
  | .oraAbs oper => [loByte oper, hiByte oper]
  | .oraAbx oper => [loByte oper, hiByte oper]
  | .oraAby oper => [loByte oper, hiByte oper]
  | .oraIzx b1 => [b1]
  | .oraIzy b1 => [b1]
  | .pha => []
  | .php => []
  | .pla => []
  | .plp => []
  | .rolAcc => []
  | .rolZp b1 => [b1]
  | .rolZpx b1 => [b1]
  | .rolAbs oper => [loByte oper, hiByte oper]
  | .rolAbx oper => [loByte oper, hiByte oper]
  | .rorAcc => []
  | .rorZp b1 => [b1]
  | .rorZpx b1 => [b1]
  | .rorAbs oper => [loByte oper, hiByte oper]
  | .rorAbx oper => [loByte oper, hiByte oper]
  | .rti => []
  | .rts => []
  | .sbcImm b1 => [b1]
  | .sbcZp b1 => [b1]
  | .sbcZpx b1 => [b1]
  | .sbcAbs oper => [loByte oper, hiByte oper]
  | .sbcAbx oper => [loByte oper, hiByte oper]
  | .sbcAby oper => [loByte oper, hiByte oper]
  | .sbcIzx b1 => [b1]
  | .sbcIzy b1 => [b1]
  | .sec => []
  | .sed => []
  | .sei => []
  | .staZp b1 => [b1]
  | .staZpx b1 => [b1]
  | .staAbs oper => [loByte oper, hiByte oper]
  | .staAbx oper => [loByte oper, hiByte oper]
  | .staAby oper => [loByte oper, hiByte oper]
  | .staIzx b1 => [b1]
  | .staIzy b1 => [b1]
  | .stxZp b1 => [b1]
  | .stxZpy b1 => [b1]
  | .stxAbs oper => [loByte oper, hiByte oper]
  | .styZp b1 => [b1]
  | .styZpx b1 => [b1]
  | .styAbs oper => [loByte oper, hiByte oper]
  | .tax => []
  | .tay => []
  | .tsx => []
  | .txa => []
  | .txs => []
  | .tya => []

/-- The length of an instruction in bytes (30_encoding R91). -/
def Instr.bytes (i : Instr) : Nat := i.row.mode.bytes

/-- The instruction that an opcode byte stands for, with its operand bytes (30_encoding R96); none for the 105 bytes
of R97. Operand bytes the row does not have are ignored. -/
def instrOf (op b1 b2 : Byte) : Option Instr :=
  match op.toNat with
  | 0x00 => some .brk
  | 0x01 => some (.oraIzx b1)
  | 0x05 => some (.oraZp b1)
  | 0x06 => some (.aslZp b1)
  | 0x08 => some .php
  | 0x09 => some (.oraImm b1)
  | 0x0A => some .aslAcc
  | 0x0D => some (.oraAbs (mkWord b2 b1))
  | 0x0E => some (.aslAbs (mkWord b2 b1))
  | 0x10 => some (.bpl b1)
  | 0x11 => some (.oraIzy b1)
  | 0x15 => some (.oraZpx b1)
  | 0x16 => some (.aslZpx b1)
  | 0x18 => some .clc
  | 0x19 => some (.oraAby (mkWord b2 b1))
  | 0x1D => some (.oraAbx (mkWord b2 b1))
  | 0x1E => some (.aslAbx (mkWord b2 b1))
  | 0x20 => some (.jsr (mkWord b2 b1))
  | 0x21 => some (.andIzx b1)
  | 0x24 => some (.bitZp b1)
  | 0x25 => some (.andZp b1)
  | 0x26 => some (.rolZp b1)
  | 0x28 => some .plp
  | 0x29 => some (.andImm b1)
  | 0x2A => some .rolAcc
  | 0x2C => some (.bitAbs (mkWord b2 b1))
  | 0x2D => some (.andAbs (mkWord b2 b1))
  | 0x2E => some (.rolAbs (mkWord b2 b1))
  | 0x30 => some (.bmi b1)
  | 0x31 => some (.andIzy b1)
  | 0x35 => some (.andZpx b1)
  | 0x36 => some (.rolZpx b1)
  | 0x38 => some .sec
  | 0x39 => some (.andAby (mkWord b2 b1))
  | 0x3D => some (.andAbx (mkWord b2 b1))
  | 0x3E => some (.rolAbx (mkWord b2 b1))
  | 0x40 => some .rti
  | 0x41 => some (.eorIzx b1)
  | 0x45 => some (.eorZp b1)
  | 0x46 => some (.lsrZp b1)
  | 0x48 => some .pha
  | 0x49 => some (.eorImm b1)
  | 0x4A => some .lsrAcc
  | 0x4C => some (.jmpAbs (mkWord b2 b1))
  | 0x4D => some (.eorAbs (mkWord b2 b1))
  | 0x4E => some (.lsrAbs (mkWord b2 b1))
  | 0x50 => some (.bvc b1)
  | 0x51 => some (.eorIzy b1)
  | 0x55 => some (.eorZpx b1)
  | 0x56 => some (.lsrZpx b1)
  | 0x58 => some .cli
  | 0x59 => some (.eorAby (mkWord b2 b1))
  | 0x5D => some (.eorAbx (mkWord b2 b1))
  | 0x5E => some (.lsrAbx (mkWord b2 b1))
  | 0x60 => some .rts
  | 0x61 => some (.adcIzx b1)
  | 0x65 => some (.adcZp b1)
  | 0x66 => some (.rorZp b1)
  | 0x68 => some .pla
  | 0x69 => some (.adcImm b1)
  | 0x6A => some .rorAcc
  | 0x6C => some (.jmpInd (mkWord b2 b1))
  | 0x6D => some (.adcAbs (mkWord b2 b1))
  | 0x6E => some (.rorAbs (mkWord b2 b1))
  | 0x70 => some (.bvs b1)
  | 0x71 => some (.adcIzy b1)
  | 0x75 => some (.adcZpx b1)
  | 0x76 => some (.rorZpx b1)
  | 0x78 => some .sei
  | 0x79 => some (.adcAby (mkWord b2 b1))
  | 0x7D => some (.adcAbx (mkWord b2 b1))
  | 0x7E => some (.rorAbx (mkWord b2 b1))
  | 0x81 => some (.staIzx b1)
  | 0x84 => some (.styZp b1)
  | 0x85 => some (.staZp b1)
  | 0x86 => some (.stxZp b1)
  | 0x88 => some .dey
  | 0x8A => some .txa
  | 0x8C => some (.styAbs (mkWord b2 b1))
  | 0x8D => some (.staAbs (mkWord b2 b1))
  | 0x8E => some (.stxAbs (mkWord b2 b1))
  | 0x90 => some (.bcc b1)
  | 0x91 => some (.staIzy b1)
  | 0x94 => some (.styZpx b1)
  | 0x95 => some (.staZpx b1)
  | 0x96 => some (.stxZpy b1)
  | 0x98 => some .tya
  | 0x99 => some (.staAby (mkWord b2 b1))
  | 0x9A => some .txs
  | 0x9D => some (.staAbx (mkWord b2 b1))
  | 0xA0 => some (.ldyImm b1)
  | 0xA1 => some (.ldaIzx b1)
  | 0xA2 => some (.ldxImm b1)
  | 0xA4 => some (.ldyZp b1)
  | 0xA5 => some (.ldaZp b1)
  | 0xA6 => some (.ldxZp b1)
  | 0xA8 => some .tay
  | 0xA9 => some (.ldaImm b1)
  | 0xAA => some .tax
  | 0xAC => some (.ldyAbs (mkWord b2 b1))
  | 0xAD => some (.ldaAbs (mkWord b2 b1))
  | 0xAE => some (.ldxAbs (mkWord b2 b1))
  | 0xB0 => some (.bcs b1)
  | 0xB1 => some (.ldaIzy b1)
  | 0xB4 => some (.ldyZpx b1)
  | 0xB5 => some (.ldaZpx b1)
  | 0xB6 => some (.ldxZpy b1)
  | 0xB8 => some .clv
  | 0xB9 => some (.ldaAby (mkWord b2 b1))
  | 0xBA => some .tsx
  | 0xBC => some (.ldyAbx (mkWord b2 b1))
  | 0xBD => some (.ldaAbx (mkWord b2 b1))
  | 0xBE => some (.ldxAby (mkWord b2 b1))
  | 0xC0 => some (.cpyImm b1)
  | 0xC1 => some (.cmpIzx b1)
  | 0xC4 => some (.cpyZp b1)
  | 0xC5 => some (.cmpZp b1)
  | 0xC6 => some (.decZp b1)
  | 0xC8 => some .iny
  | 0xC9 => some (.cmpImm b1)
  | 0xCA => some .dex
  | 0xCC => some (.cpyAbs (mkWord b2 b1))
  | 0xCD => some (.cmpAbs (mkWord b2 b1))
  | 0xCE => some (.decAbs (mkWord b2 b1))
  | 0xD0 => some (.bne b1)
  | 0xD1 => some (.cmpIzy b1)
  | 0xD5 => some (.cmpZpx b1)
  | 0xD6 => some (.decZpx b1)
  | 0xD8 => some .cld
  | 0xD9 => some (.cmpAby (mkWord b2 b1))
  | 0xDD => some (.cmpAbx (mkWord b2 b1))
  | 0xDE => some (.decAbx (mkWord b2 b1))
  | 0xE0 => some (.cpxImm b1)
  | 0xE1 => some (.sbcIzx b1)
  | 0xE4 => some (.cpxZp b1)
  | 0xE5 => some (.sbcZp b1)
  | 0xE6 => some (.incZp b1)
  | 0xE8 => some .inx
  | 0xE9 => some (.sbcImm b1)
  | 0xEA => some .nop
  | 0xEC => some (.cpxAbs (mkWord b2 b1))
  | 0xED => some (.sbcAbs (mkWord b2 b1))
  | 0xEE => some (.incAbs (mkWord b2 b1))
  | 0xF0 => some (.beq b1)
  | 0xF1 => some (.sbcIzy b1)
  | 0xF5 => some (.sbcZpx b1)
  | 0xF6 => some (.incZpx b1)
  | 0xF8 => some .sed
  | 0xF9 => some (.sbcAby (mkWord b2 b1))
  | 0xFD => some (.sbcAbx (mkWord b2 b1))
  | 0xFE => some (.incAbx (mkWord b2 b1))
  | _ => none

/-- The length that the opcode byte alone decides (30_encoding R91). -/
def opcodeBytes (op : Byte) : Option Nat := (instrOf op 0 0).map Instr.bytes

/-- What the decoder answers. -/
inductive Decoded where
  /-- An instruction, and the bytes after it. -/
  | instr (i : Instr) (rest : List Byte)
  /-- There is no byte. -/
  | noBytes
  /-- The opcode byte is one of the 105 without a row (30_encoding R97). -/
  | illegalOpcode (op : Byte)
  /-- The opcode byte's row has more operand bytes than there are. -/
  | truncated (op : Byte)
deriving DecidableEq, Repr

/-- The decoder: the instruction that a byte sequence begins with (30_encoding R91, R99). -/
def decode : List Byte → Decoded
  | [] => .noBytes
  | op :: rest =>
    match opcodeBytes op with
    | none => .illegalOpcode op
    | some n =>
      if rest.length + 1 < n then .truncated op
      else
        match instrOf op (rest.getD 0 0) (rest.getD 1 0) with
        | none => .illegalOpcode op
        | some i => .instr i (rest.drop (n - 1))

/-- The encoder: the opcode byte, then the operand bytes (30_encoding R90). -/
def encode (i : Instr) : List Byte := i.row.opcode :: i.operandBytes

/-- The longest instruction's bytes of an instruction whose bits are w, bit 0 the least significant bit of the first
byte; bits from nbits on are 0. -/
def tableBytes (nbits w : Nat) : List Byte :=
  let v := w % 2 ^ nbits
  [BitVec.ofNat 8 v, BitVec.ofNat 8 (v / 256), BitVec.ofNat 8 (v / 65536)]

/-- The instruction the decoder reads from an instruction whose bits are w. -/
def decodeTableWord (nbits w : Nat) : Option Instr :=
  match decode (tableBytes nbits w) with
  | .instr i _ => some i
  | _ => none

end Sys2Proof
end

