-- ==== Sys2Proof/Machine/Fetch.lean ====
section
/-! DEFINITION. Fetching an instruction (spec 30_encoding R99; 20_memory R51, R57, R75). -/

namespace Sys2Proof.Machine

/-- What a fetch answers. -/
inductive Fetched where
  /-- An instruction, and the state after its bytes were read. -/
  | instr (i : Instr) (after : State)
  /-- The opcode byte is one of the 105 without a row. -/
  | illegal (op : Byte)
deriving DecidableEq, Repr

/-- The bytes at n addresses from one on, modulo 65536, lowest first, with the state after the reads
(20_memory R51). -/
def State.readBytes : Nat → Word → State → List Byte × State
  | 0, _, s => ([], s)
  | n + 1, a, s =>
    let l := s.load a
    let r := State.readBytes n (a + 1) l.after
    (l.value :: r.1, r.2)

/-- The fetch of one instruction: the opcode byte, then the operand bytes its row has (30_encoding R99). -/
def State.fetch (s : State) : Fetched :=
  let op := s.load s.pc
  match opcodeBytes op.value with
  | none => .illegal op.value
  | some n =>
    let operands := State.readBytes (n - 1) (s.pc + 1) op.after
    match decode (op.value :: operands.1) with
    | .instr i _ => .instr i operands.2
    | _ => .illegal op.value

end Sys2Proof.Machine
end

