-- ==== Sys2Proof/Machine/Step.lean ====
section
/-! DEFINITION. One instruction boundary (spec 60_exceptions R242; 30_encoding R99), and the placing of one instruction
where the next fetch reads it. -/

namespace Sys2Proof.Machine

/-- One step: the inputs are sampled, then reset, an NMI or an IRQ is taken, or one instruction executes
(60_exceptions R242). DEDUCED, safe (log 10): an entry is a step of its own. -/
def step (s : State) : Host.Outcome State Fault Refusal :=
  let b := s.sampleInputs
  match b.event with
  | .reset => .next b.resetEntry
  | .nmi => .next b.nmiEntry
  | .irq => .next b.irqEntry
  | .instruction =>
    match b.fetch with
    | .instr i after => exec i after
    | .illegal op => .refused (.illegalOpcode op b.pc)

/-- Whether an address stores a whole byte, so that a loader can place one there. -/
def State.holdsByte (s : State) (addr : Word) : Bool :=
  match s.kindAt addr with
  | .ram => true
  | .rom => true
  | .colour => s.params.colorRamWidth == .eight
  | _ => false

/-- A byte placed in the memory image from outside the machine (log 5). -/
def State.place (s : State) (addr : Word) (v : Byte) : State := { s with mem := s.mem.write addr.toNat v }

/-- Where an instruction can be placed: at PC, or, where one of the three bytes from PC on is not stored (a device, an
empty address, 4-bit colour RAM), at 0x1000, which is RAM in every configuration (20_memory R60). -/
def State.placeAddr (s : State) : Word :=
  if s.holdsByte s.pc && s.holdsByte (s.pc + 1) && s.holdsByte (s.pc + 2) then s.pc else 0x1000

/-- The state with an instruction stored where step fetches next, and with no event at the next boundary. DESIGN
CHOICE, safe: log 13. -/
def State.withFetchWord (s : State) (nbits w : Nat) : State :=
  let at0 := s.placeAddr
  let v := w % 2 ^ nbits
  let loaded :=
    ((s.place at0 (BitVec.ofNat 8 v)).place (at0 + 1) (BitVec.ofNat 8 (v / 256))).place (at0 + 2)
      (BitVec.ofNat 8 (v / 65536))
  { loaded with
    pc := at0
    nmiPending := false
    resetPending := false
    schedule := BoundaryInput.quiet :: s.schedule }

end Sys2Proof.Machine
end

