-- ==== Sys2Proof/Machine/Assembly.lean ====
section
/-! DEFINITION. The assembler's side of the instruction set (spec 30_encoding R92, R113, R114): the text of an
instruction in the source's forms, and the displacement byte an assembler stores for a branch target. -/

namespace Sys2Proof.Machine

/-- The three capital letters of a mnemonic (30_encoding R113). -/
def mnemonicText : Mnemonic → String
  | .adc => "ADC"
  | .and => "AND"
  | .asl => "ASL"
  | .bcc => "BCC"
  | .bcs => "BCS"
  | .beq => "BEQ"
  | .bit => "BIT"
  | .bmi => "BMI"
  | .bne => "BNE"
  | .bpl => "BPL"
  | .brk => "BRK"
  | .bvc => "BVC"
  | .bvs => "BVS"
  | .clc => "CLC"
  | .cld => "CLD"
  | .cli => "CLI"
  | .clv => "CLV"
  | .cmp => "CMP"
  | .cpx => "CPX"
  | .cpy => "CPY"
  | .dec => "DEC"
  | .dex => "DEX"
  | .dey => "DEY"
  | .eor => "EOR"
  | .inc => "INC"
  | .inx => "INX"
  | .iny => "INY"
  | .jmp => "JMP"
  | .jsr => "JSR"
  | .lda => "LDA"
  | .ldx => "LDX"
  | .ldy => "LDY"
  | .lsr => "LSR"
  | .nop => "NOP"
  | .ora => "ORA"
  | .pha => "PHA"
  | .php => "PHP"
  | .pla => "PLA"
  | .plp => "PLP"
  | .rol => "ROL"
  | .ror => "ROR"
  | .rti => "RTI"
  | .rts => "RTS"
  | .sbc => "SBC"
  | .sec => "SEC"
  | .sed => "SED"
  | .sei => "SEI"
  | .sta => "STA"
  | .stx => "STX"
  | .sty => "STY"
  | .tax => "TAX"
  | .tay => "TAY"
  | .tsx => "TSX"
  | .txa => "TXA"
  | .txs => "TXS"
  | .tya => "TYA"

/-- A hexadecimal digit. -/
def hexDigit (n : Nat) : String := ["0", "1", "2", "3", "4", "5", "6", "7", "8", "9", "A", "B", "C", "D", "E", "F"].getD n "?"

/-- A byte as two hexadecimal digits. -/
def hexByte (b : Byte) : String := hexDigit (b.toNat / 16) ++ hexDigit (b.toNat % 16)

/-- A word as four hexadecimal digits. -/
def hexWord (w : Word) : String := hexByte (hiByte w) ++ hexByte (loByte w)

/-- The operand field of an instruction at an address (30_encoding R92, R113), numbers in the spec's `$` hexadecimal
(R114 (c)). A branch names its target (R114 (b)). -/
def operandText (pc0 : Word) (i : Instr) : String :=
  let b1 := i.operandBytes.getD 0 0
  let byteText := "$" ++ hexByte b1
  let wordText := "$" ++ hexWord (mkWord (i.operandBytes.getD 1 0) b1)
  match i.row.mode with
  | .imp => ""
  | .acc => " A"
  | .imm => " #" ++ byteText
  | .zp => " " ++ byteText
  | .zpx => " " ++ byteText ++ ",X"
  | .zpy => " " ++ byteText ++ ",Y"
  | .abs => " " ++ wordText
  | .abx => " " ++ wordText ++ ",X"
  | .aby => " " ++ wordText ++ ",Y"
  | .izx => " (" ++ byteText ++ ",X)"
  | .izy => " (" ++ byteText ++ "),Y"
  | .rel => " $" ++ hexWord (relativeTarget pc0 b1)
  | .ind => " (" ++ wordText ++ ")"

/-- An instruction at an address, as an assembler line (30_encoding R113). -/
def assemblyText (pc0 : Word) (i : Instr) : String := mnemonicText i.row.mnemonic ++ operandText pc0 i

/-- The byte an assembler stores for a branch at pc0 to a target: the displacement from the next instruction, refused
outside -128..+127 (30_encoding R111, R114 (b)). -/
def branchOperand (pc0 target : Word) : Option Byte :=
  let d := target - (pc0 + 2)
  if decide (-128 ≤ d.toInt) && decide (d.toInt ≤ 127) then some (loByte d) else none

end Sys2Proof.Machine
end

