-- ==== Sys2Proof/Machine/Timing.lean ====
section
/-! DEFINITION. The cycle counts beside the machine (spec 70_reset_and_hazards R289 to R292). They are informative: no
state depends on them and the machine has no clock (92_eei_decisions D26; log 14). -/

namespace Sys2Proof.Machine

/-- Whether an instruction's index carries out of the low byte of its base address: "page crossed" of 30_encoding R107,
R108 and R110, for the state the instruction starts in. -/
def pageCrossed (i : Instr) (s : State) : Bool :=
  let b1 := i.operandBytes.getD 0 0
  match i.row.mode with
  | .abx => decide (256 ≤ b1.toNat + s.x.toNat)
  | .aby => decide (256 ≤ b1.toNat + s.y.toNat)
  | .izy => decide (256 ≤ (s.peek (zext16 b1)).toNat + s.y.toNat)
  | _ => false

/-- The condition of a branch (42_branch R162 to R169); false for the other instructions. -/
def branchTaken (i : Instr) (s : State) : Bool :=
  match i.row.mnemonic with
  | .bcc => !s.p.c
  | .bcs => s.p.c
  | .beq => s.p.z
  | .bmi => s.p.n
  | .bne => !s.p.z
  | .bpl => !s.p.n
  | .bvc => !s.p.v
  | .bvs => s.p.v
  | _ => false

/-- The cycles an instruction takes when it starts in a state (70_reset_and_hazards R289 to R291). -/
def instrCycles (i : Instr) (s : State) : Nat :=
  i.row.cycles +
    match i.row.penalty with
    | .none => 0
    | .pageCross => if pageCrossed i s then 1 else 0
    | .branch =>
      if branchTaken i s then
        if hiByte (relativeTarget s.pc (i.operandBytes.getD 0 0)) = hiByte (s.pc + 2) then 1 else 2
      else 0

/-- The cycles of an interrupt or reset sequence (70_reset_and_hazards R292). -/
def entryCycles : Nat := 7

end Sys2Proof.Machine
end

