-- ==== Sys2Proof/Safety.lean ====
section
/-! DEFINITION. The terms claims use: the invariant of the state, runs without interrupts (spec 60_exceptions R242) and
finished runs (70_reset_and_hazards R294). -/

namespace Sys2Proof.Machine

/-- A listed byte is one its address can hold: RAM and ROM hold any byte, colour RAM holds `COLOR_RAM_WIDTH` bits of
it, a device or an empty address holds none (20_memory R62 to R67). -/
def cellHeld (c : Params) (cell : Host.Cell) : Bool :=
  match kindOf c (blockAt (BitVec.ofNat 16 cell.1)) with
  | .ram => true
  | .rom => true
  | .colour => c.colorRamWidth == .eight || decide (cell.2.toNat < 16)
  | _ => false

/-- The invariant: the memory is in its canonical form and lists only bytes that their addresses can hold. -/
def State.Inv (s : State) : Prop := s.mem.wf = true ∧ s.mem.all (cellHeld s.params) = true

/-- No interrupt, NMI or reset can be taken at this boundary or any later one while I stays as it is: the premise "no
interrupts" of 60_exceptions R242 and 70_reset_and_hazards R294. -/
def State.undisturbed (s : State) : Bool :=
  !s.resetPending && !s.nmiPending && s.schedule.all (fun b => !b.nmiEdge && !b.resetRequest)
    && (s.p.i || (if s.schedule.isEmpty then !s.irqLine else s.schedule.all (fun b => !b.irqLine)))

/-- An instruction that leaves PC where it is: `JMP pc0`, or a branch to itself whose condition is true
(70_reset_and_hazards R294). -/
def selfLoop (i : Instr) (s : State) : Bool :=
  match i with
  | .jmpAbs oper => oper == s.pc
  | .bcc b1 => b1 == 0xFE && !s.p.c
  | .bcs b1 => b1 == 0xFE && s.p.c
  | .beq b1 => b1 == 0xFE && s.p.z
  | .bmi b1 => b1 == 0xFE && s.p.n
  | .bne b1 => b1 == 0xFE && !s.p.z
  | .bpl b1 => b1 == 0xFE && !s.p.n
  | .bvc b1 => b1 == 0xFE && !s.p.v
  | .bvs b1 => b1 == 0xFE && s.p.v
  | _ => false

/-- A final state (70_reset_and_hazards R294): nothing can disturb it and the instruction at PC leaves the entire state
unchanged including PC, its fetch included. DEDUCED, safe: log 16. -/
def State.isFinal (s : State) : Bool :=
  s.undisturbed &&
    match s.fetch with
    | .instr i after => after == s && selfLoop i s
    | .illegal _ => false

end Sys2Proof.Machine
end

