-- ==== Sys2Proof/WellFormed.lean ====
section
/-! DEFINITION. Well-formed instruction bytes (spec 30_encoding R90, R91, R97) and well-formed instructions (R98). The
checks are written from the list of R97 and the map of R93, not from the decoder's table. -/

namespace Sys2Proof

/-- The 105 opcode bytes that appear in no table of the source (30_encoding R97). -/
def unlistedOpcodes : List Byte :=
  [ 0x02, 0x03, 0x04, 0x07, 0x0B, 0x0C, 0x0F,
    0x12, 0x13, 0x14, 0x17, 0x1A, 0x1B, 0x1C, 0x1F,
    0x22, 0x23, 0x27, 0x2B, 0x2F,
    0x32, 0x33, 0x34, 0x37, 0x3A, 0x3B, 0x3C, 0x3F,
    0x42, 0x43, 0x44, 0x47, 0x4B, 0x4F,
    0x52, 0x53, 0x54, 0x57, 0x5A, 0x5B, 0x5C, 0x5F,
    0x62, 0x63, 0x64, 0x67, 0x6B, 0x6F,
    0x72, 0x73, 0x74, 0x77, 0x7A, 0x7B, 0x7C, 0x7F,
    0x80, 0x82, 0x83, 0x87, 0x89, 0x8B, 0x8F,
    0x92, 0x93, 0x97, 0x9B, 0x9C, 0x9E, 0x9F,
    0xA3, 0xA7, 0xAB, 0xAF,
    0xB2, 0xB3, 0xB7, 0xBB, 0xBF,
    0xC2, 0xC3, 0xC7, 0xCB, 0xCF,
    0xD2, 0xD3, 0xD4, 0xD7, 0xDA, 0xDB, 0xDC, 0xDF,
    0xE2, 0xE3, 0xE7, 0xEB, 0xEF,
    0xF2, 0xF3, 0xF4, 0xF7, 0xFA, 0xFB, 0xFC, 0xFF ]

/-- The byte count of an assigned opcode byte, read off the columns of the map (30_encoding R93, R94): the formats F1,
F2 and F3 of R90. -/
def mapBytes (op : Byte) : Nat :=
  let hi := op.toNat / 16
  let lo := op.toNat % 16
  if lo = 0x8 ∨ lo = 0xA then 1
  else if lo = 0xC ∨ lo = 0xD ∨ lo = 0xE then 3
  else if lo = 0x9 then (if hi % 2 = 0 then 2 else 3)
  else if op = 0x00 ∨ op = 0x40 ∨ op = 0x60 then 1
  else if op = 0x20 ∨ op = 0xBE then 3
  else 2

/-- A byte sequence that is one whole instruction: there is an opcode byte, it is assigned (30_encoding R97), and
exactly its operand bytes follow (R91). -/
def wellFormedBytes : List Byte → Bool
  | [] => false
  | op :: rest => !(unlistedOpcodes.contains op) && (rest.length + 1 == mapBytes op)

/-- Every term of Instr is a legal instruction: an operand byte can take any value 0..255, no operand value is
reserved (30_encoding R98), and an operand's width is its type's. -/
def Instr.wellFormed (_ : Instr) : Bool := true

end Sys2Proof
end

