-- ==== Sys2Proof/Certificates/Slice0/Obligations.lean ====
section
/-! DEFINITION. The statements about the machine, and the few terms they share: the forms of an instruction with the
bytes the spec gives each, what stays the same, and what one write leaves. -/

namespace Sys2Proof.Claims

open Sys2Proof.Machine

/-- A form of an instruction that reads an operand: the instruction, its bytes as spec 30_encoding R96 gives them, and
the operand. -/
structure ReadForm where
  instr : Instr
  code : List Byte
  operand : State → Loaded

/-- A form of an instruction with an effective address: the instruction, its bytes, and the address with the state
after the pointer reads. -/
structure AddrForm where
  instr : Instr
  code : List Byte
  ea : State → Located

/-- The reading form over an address. -/
def AddrForm.read (f : AddrForm) : ReadForm := ⟨f.instr, f.code, fun s => (f.ea s).load⟩

/-- The Immediate form (30_encoding R102). -/
def immForm (i : Byte → Instr) (op b1 : Byte) : ReadForm := ⟨i b1, [op, b1], fun s => s.immediate b1⟩

/-- The Zero Page form (30_encoding R103). -/
def zpForm (i : Byte → Instr) (op b1 : Byte) : AddrForm := ⟨i b1, [op, b1], fun s => s.zeroPage b1⟩

/-- The Zero Page,X form (30_encoding R104). -/
def zpxForm (i : Byte → Instr) (op b1 : Byte) : AddrForm := ⟨i b1, [op, b1], fun s => s.zeroPageX b1⟩

/-- The Zero Page,Y form (30_encoding R105). -/
def zpyForm (i : Byte → Instr) (op b1 : Byte) : AddrForm := ⟨i b1, [op, b1], fun s => s.zeroPageY b1⟩

/-- The Absolute form (30_encoding R106). -/
def absForm (i : Word → Instr) (op b1 b2 : Byte) : AddrForm :=
  ⟨i (mkWord b2 b1), [op, b1, b2], fun s => s.absolute (mkWord b2 b1)⟩

/-- The Absolute,X form (30_encoding R107). -/
def abxForm (i : Word → Instr) (op b1 b2 : Byte) : AddrForm :=
  ⟨i (mkWord b2 b1), [op, b1, b2], fun s => s.absoluteX (mkWord b2 b1)⟩

/-- The Absolute,Y form (30_encoding R108). -/
def abyForm (i : Word → Instr) (op b1 b2 : Byte) : AddrForm :=
  ⟨i (mkWord b2 b1), [op, b1, b2], fun s => s.absoluteY (mkWord b2 b1)⟩

/-- The (Indirect,X) form (30_encoding R109). -/
def izxForm (i : Byte → Instr) (op b1 : Byte) : AddrForm := ⟨i b1, [op, b1], fun s => s.indirectX b1⟩

/-- The (Indirect),Y form (30_encoding R110). -/
def izyForm (i : Byte → Instr) (op b1 : Byte) : AddrForm := ⟨i b1, [op, b1], fun s => s.indirectY b1⟩

/-- The forms of ADC, with the bytes of 40_arith_logic R131. -/
def adcForms (b1 b2 : Byte) : List ReadForm :=
  [ immForm .adcImm 0x69 b1, (zpForm .adcZp 0x65 b1).read, (zpxForm .adcZpx 0x75 b1).read,
    (absForm .adcAbs 0x6D b1 b2).read, (abxForm .adcAbx 0x7D b1 b2).read, (abyForm .adcAby 0x79 b1 b2).read,
    (izxForm .adcIzx 0x61 b1).read, (izyForm .adcIzy 0x71 b1).read ]

/-- The forms of SBC, with the bytes of 40_arith_logic R141. -/
def sbcForms (b1 b2 : Byte) : List ReadForm :=
  [ immForm .sbcImm 0xE9 b1, (zpForm .sbcZp 0xE5 b1).read, (zpxForm .sbcZpx 0xF5 b1).read,
    (absForm .sbcAbs 0xED b1 b2).read, (abxForm .sbcAbx 0xFD b1 b2).read, (abyForm .sbcAby 0xF9 b1 b2).read,
    (izxForm .sbcIzx 0xE1 b1).read, (izyForm .sbcIzy 0xF1 b1).read ]

/-- The forms of AND, with the bytes of 40_arith_logic R133. -/
def andForms (b1 b2 : Byte) : List ReadForm :=
  [ immForm .andImm 0x29 b1, (zpForm .andZp 0x25 b1).read, (zpxForm .andZpx 0x35 b1).read,
    (absForm .andAbs 0x2D b1 b2).read, (abxForm .andAbx 0x3D b1 b2).read, (abyForm .andAby 0x39 b1 b2).read,
    (izxForm .andIzx 0x21 b1).read, (izyForm .andIzy 0x31 b1).read ]

/-- The forms of EOR, with the bytes of 40_arith_logic R139. -/
def eorForms (b1 b2 : Byte) : List ReadForm :=
  [ immForm .eorImm 0x49 b1, (zpForm .eorZp 0x45 b1).read, (zpxForm .eorZpx 0x55 b1).read,
    (absForm .eorAbs 0x4D b1 b2).read, (abxForm .eorAbx 0x5D b1 b2).read, (abyForm .eorAby 0x59 b1 b2).read,
    (izxForm .eorIzx 0x41 b1).read, (izyForm .eorIzy 0x51 b1).read ]

/-- The forms of ORA, with the bytes of 40_arith_logic R140. -/
def oraForms (b1 b2 : Byte) : List ReadForm :=
  [ immForm .oraImm 0x09 b1, (zpForm .oraZp 0x05 b1).read, (zpxForm .oraZpx 0x15 b1).read,
    (absForm .oraAbs 0x0D b1 b2).read, (abxForm .oraAbx 0x1D b1 b2).read, (abyForm .oraAby 0x19 b1 b2).read,
    (izxForm .oraIzx 0x01 b1).read, (izyForm .oraIzy 0x11 b1).read ]

/-- The forms of BIT, with the bytes of 40_arith_logic R134. -/
def bitForms (b1 b2 : Byte) : List ReadForm := [(zpForm .bitZp 0x24 b1).read, (absForm .bitAbs 0x2C b1 b2).read]

/-- The forms of CMP, with the bytes of 40_arith_logic R136. -/
def cmpForms (b1 b2 : Byte) : List ReadForm :=
  [ immForm .cmpImm 0xC9 b1, (zpForm .cmpZp 0xC5 b1).read, (zpxForm .cmpZpx 0xD5 b1).read,
    (absForm .cmpAbs 0xCD b1 b2).read, (abxForm .cmpAbx 0xDD b1 b2).read, (abyForm .cmpAby 0xD9 b1 b2).read,
    (izxForm .cmpIzx 0xC1 b1).read, (izyForm .cmpIzy 0xD1 b1).read ]

/-- The forms of CPX, with the bytes of 40_arith_logic R137. -/
def cpxForms (b1 b2 : Byte) : List ReadForm :=
  [immForm .cpxImm 0xE0 b1, (zpForm .cpxZp 0xE4 b1).read, (absForm .cpxAbs 0xEC b1 b2).read]

/-- The forms of CPY, with the bytes of 40_arith_logic R138. -/
def cpyForms (b1 b2 : Byte) : List ReadForm :=
  [immForm .cpyImm 0xC0 b1, (zpForm .cpyZp 0xC4 b1).read, (absForm .cpyAbs 0xCC b1 b2).read]

/-- The forms of LDA, with the bytes of 46_load_store R206. -/
def ldaForms (b1 b2 : Byte) : List ReadForm :=
  [ immForm .ldaImm 0xA9 b1, (zpForm .ldaZp 0xA5 b1).read, (zpxForm .ldaZpx 0xB5 b1).read,
    (absForm .ldaAbs 0xAD b1 b2).read, (abxForm .ldaAbx 0xBD b1 b2).read, (abyForm .ldaAby 0xB9 b1 b2).read,
    (izxForm .ldaIzx 0xA1 b1).read, (izyForm .ldaIzy 0xB1 b1).read ]

/-- The forms of LDX, with the bytes of 46_load_store R207. -/
def ldxForms (b1 b2 : Byte) : List ReadForm :=
  [ immForm .ldxImm 0xA2 b1, (zpForm .ldxZp 0xA6 b1).read, (zpyForm .ldxZpy 0xB6 b1).read,
    (absForm .ldxAbs 0xAE b1 b2).read, (abyForm .ldxAby 0xBE b1 b2).read ]

/-- The forms of LDY, with the bytes of 46_load_store R208. -/
def ldyForms (b1 b2 : Byte) : List ReadForm :=
  [ immForm .ldyImm 0xA0 b1, (zpForm .ldyZp 0xA4 b1).read, (zpxForm .ldyZpx 0xB4 b1).read,
    (absForm .ldyAbs 0xAC b1 b2).read, (abxForm .ldyAbx 0xBC b1 b2).read ]

/-- The forms of STA, with the bytes of 46_load_store R209. -/
def staForms (b1 b2 : Byte) : List AddrForm :=
  [ zpForm .staZp 0x85 b1, zpxForm .staZpx 0x95 b1, absForm .staAbs 0x8D b1 b2, abxForm .staAbx 0x9D b1 b2,
    abyForm .staAby 0x99 b1 b2, izxForm .staIzx 0x81 b1, izyForm .staIzy 0x91 b1 ]

/-- The forms of STX, with the bytes of 46_load_store R210. -/
def stxForms (b1 b2 : Byte) : List AddrForm :=
  [zpForm .stxZp 0x86 b1, zpyForm .stxZpy 0x96 b1, absForm .stxAbs 0x8E b1 b2]

/-- The forms of STY, with the bytes of 46_load_store R211. -/
def styForms (b1 b2 : Byte) : List AddrForm :=
  [zpForm .styZp 0x84 b1, zpxForm .styZpx 0x94 b1, absForm .styAbs 0x8C b1 b2]

/-- The memory forms of ASL, with the bytes of 41_shift_rotate R151. -/
def aslForms (b1 b2 : Byte) : List AddrForm :=
  [zpForm .aslZp 0x06 b1, zpxForm .aslZpx 0x16 b1, absForm .aslAbs 0x0E b1 b2, abxForm .aslAbx 0x1E b1 b2]

/-- The memory forms of LSR, with the bytes of 41_shift_rotate R152. -/
def lsrForms (b1 b2 : Byte) : List AddrForm :=
  [zpForm .lsrZp 0x46 b1, zpxForm .lsrZpx 0x56 b1, absForm .lsrAbs 0x4E b1 b2, abxForm .lsrAbx 0x5E b1 b2]

/-- The memory forms of ROL, with the bytes of 41_shift_rotate R153. -/
def rolForms (b1 b2 : Byte) : List AddrForm :=
  [zpForm .rolZp 0x26 b1, zpxForm .rolZpx 0x36 b1, absForm .rolAbs 0x2E b1 b2, abxForm .rolAbx 0x3E b1 b2]

/-- The memory forms of ROR, with the bytes of 41_shift_rotate R154. -/
def rorForms (b1 b2 : Byte) : List AddrForm :=
  [zpForm .rorZp 0x66 b1, zpxForm .rorZpx 0x76 b1, absForm .rorAbs 0x6E b1 b2, abxForm .rorAbx 0x7E b1 b2]

/-- The forms of DEC, with the bytes of 44_incdec R186. -/
def decForms (b1 b2 : Byte) : List AddrForm :=
  [zpForm .decZp 0xC6 b1, zpxForm .decZpx 0xD6 b1, absForm .decAbs 0xCE b1 b2, abxForm .decAbx 0xDE b1 b2]

/-- The forms of INC, with the bytes of 44_incdec R189. -/
def incForms (b1 b2 : Byte) : List AddrForm :=
  [zpForm .incZp 0xE6 b1, zpxForm .incZpx 0xF6 b1, absForm .incAbs 0xEE b1 b2, abxForm .incAbx 0xFE b1 b2]

/-- Every byte of memory is unchanged. -/
def sameMemory (s t : State) : Prop := ∀ addr : Word, t.stored addr = s.stored addr

/-- A, X, Y and S are unchanged. -/
def sameRegisters (s t : State) : Prop := t.a = s.a ∧ t.x = s.x ∧ t.y = s.y ∧ t.sp = s.sp

/-- The pending-interrupt state (10_state R40), the schedule still to come and the parameters are unchanged. -/
def sameInputs (s t : State) : Prop :=
  t.irqLine = s.irqLine ∧ t.nmiPending = s.nmiPending ∧ t.resetPending = s.resetPending ∧ t.schedule = s.schedule
    ∧ t.params = s.params

/-- The model's own draw counter and device history are those of a state. -/
def sameBus (u t : State) : Prop := t.io = u.io ∧ t.draws = u.draws

/-- The byte an address holds after a write of v, by its kind (20_memory R62, R64 to R67). -/
def byteAfterWrite (s : State) (addr : Word) (v : Byte) : Byte :=
  match s.kindAt addr with
  | .ram => v
  | .colour => if s.params.colorRamWidth = .four then v &&& 0x0F else v
  | _ => s.stored addr

/-- One write of v at addr, made from the bus state of u, is the only change of memory from s to t. -/
def wroteOnly (s u t : State) (addr : Word) (v : Byte) : Prop :=
  (∀ b : Word, b ≠ addr → t.stored b = s.stored b) ∧ t.stored addr = byteAfterWrite s addr v
    ∧ t.io = u.ioAfterWrite addr v ∧ t.draws = u.draws

/-- The bytes are those of the instruction, exec answers a next state for it, and PC is advanced by their number
(10_state R25). -/
def completes (code : List Byte) (i : Instr) (s : State) (post : State → Prop) : Prop :=
  decode code = .instr i [] ∧
    ∃ t, exec i s = .next t ∧ t.pc = s.pc + BitVec.ofNat 16 code.length ∧ post t

/-- The form of an instruction that loads a register (or A with a result): memory, S and the inputs are unchanged, and
only the operand's reads touch the bus. -/
def readCompletes (f : ReadForm) (s : State) (post : Byte → State → Prop) : Prop :=
  completes f.code f.instr s fun t =>
    t.sp = s.sp ∧ sameMemory s t ∧ sameInputs s t ∧ sameBus (f.operand s).after t ∧ post (f.operand s).value t

/-- The form of an instruction that reads a byte m, then writes r m at the same address: the flags become q m, the
registers and the inputs are unchanged, and r m is the only byte written. -/
def modifyCompletes (f : AddrForm) (s : State) (r : Byte → Byte) (q : Byte → Flags) : Prop :=
  completes f.code f.instr s fun t =>
    let e := f.ea s
    sameRegisters s t ∧ sameInputs s t ∧ t.p = q e.load.value
      ∧ wroteOnly s e.load.after t e.addr (r e.load.value)

/-- A one-byte instruction that writes no memory and touches no device, with its cycle count
(70_reset_and_hazards R289). -/
def implied (op : Byte) (cycles : Nat) (i : Instr) (s : State) (post : State → Prop) : Prop :=
  instrCycles i s = cycles ∧
    completes [op] i s fun t => sameMemory s t ∧ sameInputs s t ∧ sameBus s t ∧ post t

/-- The instructions executed one after another, without fetches and events, all complete and leave a state. -/
def runAll : List Instr → State → (State → Prop) → Prop
  | [], s, post => post s
  | i :: rest, s, post => ∃ t, exec i s = .next t ∧ runAll rest t post

/-- The instructions whose own rules write PC (10_state R25). -/
def writesPC : List Mnemonic :=
  [.bcc, .bcs, .beq, .bmi, .bne, .bpl, .bvc, .bvs, .jmp, .jsr, .rts, .rti, .brk]

/-- "Writes A" of 10_state R37, without the shifts' Accumulator form. -/
def writesA : List Mnemonic := [.adc, .and, .eor, .ora, .sbc, .lda, .pla, .txa, .tya]

/-- "Writes X" of 10_state R37. -/
def writesX : List Mnemonic := [.ldx, .tax, .tsx, .inx, .dex]

/-- "Writes Y" of 10_state R37. -/
def writesY : List Mnemonic := [.ldy, .tay, .iny, .dey]

/-- "Writes S" of 10_state R37: TXS and every push and pull. -/
def writesS : List Mnemonic := [.txs, .pha, .php, .pla, .plp, .jsr, .rts, .brk, .rti]

/-- The mnemonics that write Z (10_state R29; the Z column of R36). -/
def writesZ : List Mnemonic :=
  [.adc, .and, .asl, .bit, .cmp, .cpx, .cpy, .dec, .dex, .dey, .eor, .inc, .inx, .iny, .lda, .ldx, .ldy, .lsr, .ora,
    .rol, .ror, .sbc, .tax, .tay, .tsx, .txa, .tya, .pla, .plp, .rti]

/-- The mnemonics that write C (10_state R28; the C column of R36). -/
def writesC : List Mnemonic :=
  [.adc, .asl, .clc, .cmp, .cpx, .cpy, .lsr, .rol, .ror, .sbc, .sec, .plp, .rti]

/-- The mnemonics that write I (10_state R30; the I column of R36). -/
def writesI : List Mnemonic := [.brk, .cli, .sei, .plp, .rti]

/-- The mnemonics that write D (10_state R31; the D column of R36). -/
def writesD : List Mnemonic := [.cld, .sed, .plp, .rti]

/-- The mnemonics that write V (10_state R32; the V column of R36). -/
def writesV : List Mnemonic := [.adc, .bit, .clv, .sbc, .plp, .rti]

/-- The instructions that write a byte at an effective address (20_memory R54). -/
def storesAtEa : List Mnemonic := [.sta, .stx, .sty, .asl, .lsr, .rol, .ror, .dec, .inc]

/-- The instructions that write the stack (20_memory R54). -/
def pushes : List Mnemonic := [.pha, .php, .jsr, .brk]

/-- What the common entry leaves (60_exceptions R246): from s, with the return address, the break bit and the vector,
to t. -/
def entered (s t : State) (ret : Word) (b : Bool) (vec : Word) : Prop :=
  t.stored (stackAddr s.sp) = hiByte ret
    ∧ t.stored (stackAddr (s.sp - 1)) = loByte ret
    ∧ t.stored (stackAddr (s.sp - 2)) = s.p.pack b
    ∧ (∀ addr : Word, addr ≠ stackAddr s.sp → addr ≠ stackAddr (s.sp - 1) → addr ≠ stackAddr (s.sp - 2) →
        t.stored addr = s.stored addr)
    ∧ t.sp = s.sp - 3
    ∧ t.p = { s.p with i := true }
    ∧ t.pc = mkWord (s.stored (vec + 1)) (s.stored vec)
    ∧ t.a = s.a ∧ t.x = s.x ∧ t.y = s.y ∧ sameBus s t ∧ t.params = s.params

/-- S and the n bytes at the top of the stack are those of a state: what code keeps that leaves those alone. -/
def sameTop (n : Nat) (t u : State) : Prop :=
  u.sp = t.sp ∧ ∀ k : Nat, 1 ≤ k → k ≤ n →
    u.stored (stackAddr (t.sp + BitVec.ofNat 8 k)) = t.stored (stackAddr (t.sp + BitVec.ofNat 8 k))

/-- The status byte that an entry pushed last, at 0x0100 plus S + 1 modulo 256 (60_exceptions R254, 10_state R26), has
bit 4 as given and bit 5 set, and its other six bits are the flags given. -/
def statusPushed (t : State) (b : Bool) (p : Flags) : Prop :=
  let v := t.stored (BitVec.ofNat 16 (0x100 + (t.sp.toNat + 1) % 256))
  v.getLsbD 4 = b ∧ v.getLsbD 5 = true
    ∧ ({ n := v.getLsbD 7, v := v.getLsbD 6, d := v.getLsbD 3, i := v.getLsbD 2, z := v.getLsbD 1,
         c := v.getLsbD 0 } : Flags) = p

/-- The read-modify-write instructions (20_memory R54). -/
def modifies : List Mnemonic := [.asl, .lsr, .rol, .ror, .dec, .inc]

/-- The table of 70_reset_and_hazards R289: the printed cycles of an instruction in an addressing mode, without the
notes of R290 and R291. -/
def listedCycles (mode : Mode) (m : Mnemonic) : Nat :=
  match mode with
  | .imp =>
    if m = .pha ∨ m = .php then 3
    else if m = .pla ∨ m = .plp then 4
    else if m = .rti ∨ m = .rts then 6
    else if m = .brk then 7
    else 2
  | .acc | .imm | .rel => 2
  | .zp => if m ∈ modifies then 5 else 3
  | .zpx => if m ∈ modifies then 6 else 4
  | .zpy => 4
  | .abs => if m = .jmp then 3 else if m = .jsr ∨ m ∈ modifies then 6 else 4
  | .abx => if m = .sta then 5 else if m ∈ modifies then 7 else 4
  | .aby => if m = .sta then 5 else 4
  | .izx => 6
  | .izy => if m = .sta then 6 else 5
  | .ind => 5

/-- The indexed address of an instruction lies in another page than its base address (70_reset_and_hazards R290;
30_encoding R107, R108, R110); false in the modes without a base that carries. -/
def leavesPage (i : Instr) (s : State) : Bool :=
  let b1 := i.operandBytes.getD 0 0
  let b2 := i.operandBytes.getD 1 0
  match i.row.mode with
  | .abx => hiByte (s.absoluteX (mkWord b2 b1)).addr != b2
  | .aby => hiByte (s.absoluteY (mkWord b2 b1)).addr != b2
  | .izy => hiByte (s.indirectY b1).addr != hiByte (s.read16zp b1).addr
  | _ => false

end Sys2Proof.Claims

open Sys2Proof Sys2Proof.Machine Sys2Proof.Claims

/-! ### Encoding -/

/-- Decoding the bytes of any instruction, whatever follows them, gives the instruction and what follows. -/
def Obligations.DecodeOfEncode : Prop :=
  ∀ (i : Instr) (rest : List Byte), decode (encode i ++ rest) = .instr i rest

/-- Whatever the decoder reads as an instruction is exactly that instruction's bytes and the rest: each byte sequence
has one meaning and no operand bit is dropped. -/
def Obligations.EncodeOfDecode : Prop :=
  ∀ (bytes : List Byte) (i : Instr) (rest : List Byte), decode bytes = .instr i rest → bytes = encode i ++ rest

/-- The byte sequences that the lists and columns of 30_encoding R93 and R97 call one whole instruction are exactly
those the decoder reads with nothing left. -/
def Obligations.WellFormedBytesAreDecoded : Prop :=
  ∀ bytes : List Byte, wellFormedBytes bytes = true ↔ ∃ i, decode bytes = .instr i []

/-- A few words of the opcode table, written out from 30_encoding R96, decode to their instructions. -/
def Obligations.SampleWordsDecode : Prop :=
  decode [0x6D, 0x34, 0x12] = .instr (.adcAbs 0x1234) [] ∧ decode [0x0A] = .instr .aslAcc []
    ∧ decode [0x90, 0xFE] = .instr (.bcc 0xFE) [] ∧ decode [0x6C, 0xFF, 0x12] = .instr (.jmpInd 0x12FF) []
    ∧ decode [0x91, 0xFB] = .instr (.staIzy 0xFB) [] ∧ decode [0x40] = .instr .rti []
    ∧ decode [0xB6, 0x10] = .instr (.ldxZpy 0x10) [] ∧ decode [0x02] = .illegalOpcode 0x02

/-- A branch operand that the assembler accepts makes the branch reach the target (30_encoding R111, R114 (b)), and a
target within -128..+127 of the next instruction is accepted. The spec marks R111 and R114 as its own inference ("from
general knowledge, not in source"), which the model follows (log 15). -/
def Obligations.BranchOperandReachesTarget : Prop :=
  ∀ pc0 target : Word,
    (∀ b, branchOperand pc0 target = some b → relativeTarget pc0 b = target)
    ∧ ((∃ b : Byte, relativeTarget pc0 b = target) → ∃ b, branchOperand pc0 target = some b)

/-! ### Addressing modes -/

/-- The effective addresses that need no carry out of page zero (30_encoding R103, R104, R105, R106, R109): the sums
wrap inside page zero, and the (Indirect,X) pointer is two bytes of page zero, the second address wrapping too. The
spec marks R100 to R112 as its own inference ("from general knowledge, not in source"), which the model follows (log
15). -/
def Obligations.PageZeroAddressing : Prop :=
  ∀ (s : State) (b1 b2 : Byte),
    (s.zeroPage b1).addr.toNat = b1.toNat
    ∧ (s.zeroPageX b1).addr.toNat = (b1.toNat + s.x.toNat) % 256
    ∧ (s.zeroPageY b1).addr.toNat = (b1.toNat + s.y.toNat) % 256
    ∧ (s.absolute (mkWord b2 b1)).addr.toNat = b2.toNat * 256 + b1.toNat
    ∧ (s.indirectX b1).addr.toNat =
        (s.mem.read (((b1.toNat + s.x.toNat) % 256 + 1) % 256)).toNat * 256
          + (s.mem.read ((b1.toNat + s.x.toNat) % 256)).toNat
    ∧ (s.zeroPage b1).after = s ∧ (s.zeroPageX b1).after = s ∧ (s.zeroPageY b1).after = s
    ∧ (s.absolute (mkWord b2 b1)).after = s ∧ (s.indirectX b1).after = s

/-- The indexed addresses that carry into the high byte (30_encoding R107, R108, R110): the sum modulo 65536, and the
page is crossed exactly when the high byte differs from the base's, that is when the low byte and the index reach 256.
The spec marks R100 to R112 as its own inference ("from general knowledge, not in source"), which the model follows
(log 15). -/
def Obligations.CarryingIndexedAddressing : Prop :=
  ∀ (s : State) (b1 b2 : Byte),
    (s.absoluteX (mkWord b2 b1)).addr.toNat = (b2.toNat * 256 + b1.toNat + s.x.toNat) % 65536
    ∧ (s.absoluteY (mkWord b2 b1)).addr.toNat = (b2.toNat * 256 + b1.toNat + s.y.toNat) % 65536
    ∧ (s.indirectY b1).addr.toNat =
        ((s.mem.read ((b1.toNat + 1) % 256)).toNat * 256 + (s.mem.read b1.toNat).toNat + s.y.toNat) % 65536
    ∧ (s.absoluteX (mkWord b2 b1)).after = s ∧ (s.absoluteY (mkWord b2 b1)).after = s ∧ (s.indirectY b1).after = s
    ∧ (pageCrossed (.ldaAbx (mkWord b2 b1)) s = true ↔ hiByte (s.absoluteX (mkWord b2 b1)).addr ≠ b2)
    ∧ (pageCrossed (.ldaAby (mkWord b2 b1)) s = true ↔ hiByte (s.absoluteY (mkWord b2 b1)).addr ≠ b2)
    ∧ (pageCrossed (.ldaIzy b1) s = true ↔ hiByte (s.indirectY b1).addr ≠ hiByte (s.read16zp b1).addr)
    ∧ (pageCrossed (.ldaAbx (mkWord b2 b1)) s = true ↔ 256 ≤ b1.toNat + s.x.toNat)
    ∧ (pageCrossed (.ldaAby (mkWord b2 b1)) s = true ↔ 256 ≤ b1.toNat + s.y.toNat)
    ∧ (pageCrossed (.ldaIzy b1) s = true ↔ 256 ≤ (loByte (s.read16zp b1).addr).toNat + s.y.toNat)

/-! ### Arithmetic, logic, compare, bit test -/

/-- ADC with D = 0 (40_arith_logic R131), in every form: A and C are the sum, V says that the signed sum lies outside
-128..127, which the spec's two bit formulas say too, N and Z follow the result. The spec marks the definition of V in
R131 as its own inference ("from general knowledge, not in source"), which the model follows (log 15). -/
def Obligations.AdcBinaryResult : Prop :=
  ∀ (s : State) (b1 b2 : Byte), s.p.d = false → ∀ f ∈ adcForms b1 b2,
    readCompletes f s fun m t =>
      t.a.toNat = (s.a.toNat + m.toNat + s.p.c.toNat) % 256
      ∧ (t.p.c = true ↔ 256 ≤ s.a.toNat + m.toNat + s.p.c.toNat)
      ∧ (t.p.v = true ↔
          s.a.toInt + m.toInt + s.p.c.toNat < -128 ∨ 127 < s.a.toInt + m.toInt + s.p.c.toNat)
      ∧ (t.p.v = true ↔ s.a.getLsbD 7 = m.getLsbD 7 ∧ t.a.getLsbD 7 ≠ s.a.getLsbD 7)
      ∧ t.p.v = ((s.a ^^^ t.a) &&& (m ^^^ t.a)).getLsbD 7
      ∧ t.p.n = t.a.getLsbD 7 ∧ (t.p.z = true ↔ t.a = 0)
      ∧ t.p.i = s.p.i ∧ t.p.d = s.p.d ∧ t.x = s.x ∧ t.y = s.y

/-- SBC with D = 0 (40_arith_logic R141), in every form: the difference with the complement of C as borrow, C set when
there is no borrow out, V the signed overflow, and the same result and flags as ADC of the complemented operand. The
spec marks the definition of V in R141 as its own inference ("from general knowledge, not in source"), which the model
follows (log 15). -/
def Obligations.SbcBinaryResult : Prop :=
  ∀ (s : State) (b1 b2 : Byte), s.p.d = false → ∀ f ∈ sbcForms b1 b2,
    readCompletes f s fun m t =>
      (t.a.toNat : Int) = ((s.a.toNat : Int) - m.toNat - (1 - (s.p.c.toNat : Int))) % 256
      ∧ (t.p.c = true ↔ 0 ≤ (s.a.toNat : Int) - m.toNat - (1 - (s.p.c.toNat : Int)))
      ∧ (t.p.v = true ↔
          s.a.toInt - m.toInt - (1 - (s.p.c.toNat : Int)) < -128
            ∨ 127 < s.a.toInt - m.toInt - (1 - (s.p.c.toNat : Int)))
      ∧ (t.p.v = true ↔ s.a.getLsbD 7 ≠ m.getLsbD 7 ∧ t.a.getLsbD 7 ≠ s.a.getLsbD 7)
      ∧ t.p.n = t.a.getLsbD 7 ∧ (t.p.z = true ↔ t.a = 0)
      ∧ t.p.i = s.p.i ∧ t.p.d = s.p.d ∧ t.x = s.x ∧ t.y = s.y
      ∧ t.a = (adcBinary s.a (m ^^^ 0xFF) s.p).value ∧ t.p = (adcBinary s.a (m ^^^ 0xFF) s.p).flags

/-- ADC with D = 1 under the conservative model (40_arith_logic R132), in every form: for two BCD bytes A and C are the
decimal sum, and N, V and Z are three different draws; otherwise A, C, N, V and Z are five different draws. Which draw
each value is, their order and the counter they advance are the model's own choice (DESIGN CHOICE, log 7): R132 says
only that they are fresh and independent. The spec marks R132 as its own inference ("from general knowledge, not in
source"), which the model follows (log 15). -/
def Obligations.AdcDecimalConservativeResult : Prop :=
  ∀ (s : State) (b1 b2 : Byte), s.p.d = true → s.params.decimalModel = .conservative → ∀ f ∈ adcForms b1 b2,
    completes f.code f.instr s fun t =>
      let m := (f.operand s).value
      let u := (f.operand s).after
      sameMemory s t ∧ sameInputs s t ∧ t.io = u.io ∧ t.x = s.x ∧ t.y = s.y ∧ t.sp = s.sp
      ∧ t.p.i = s.p.i ∧ t.p.d = s.p.d
      ∧ (validBcd s.a = true ∧ validBcd m = true →
          let d := bcdValue s.a + bcdValue m + s.p.c.toNat
          validBcd t.a = true ∧ bcdValue t.a = d % 100 ∧ (t.p.c = true ↔ 100 ≤ d)
          ∧ t.p.n = Config.any1 u.draws ∧ t.p.v = Config.any1 (u.draws + 1) ∧ t.p.z = Config.any1 (u.draws + 2)
          ∧ t.draws = u.draws + 3)
      ∧ (¬(validBcd s.a = true ∧ validBcd m = true) →
          t.a = Config.any8 u.draws ∧ t.p.c = Config.any1 (u.draws + 1) ∧ t.p.n = Config.any1 (u.draws + 2)
          ∧ t.p.v = Config.any1 (u.draws + 3) ∧ t.p.z = Config.any1 (u.draws + 4) ∧ t.draws = u.draws + 5)

/-- SBC with D = 1 under the conservative model (40_arith_logic R142), in every form: for two BCD bytes A and C are the
decimal difference, and N, V and Z are three different draws; otherwise A, C, N, V and Z are five different draws.
Which draw each value is, their order and the counter they advance are the model's own choice (DESIGN CHOICE, log 7):
R142 says only that they are fresh and independent. The spec marks R142 as its own inference ("from general knowledge,
not in source"), which the model follows (log 15). -/
def Obligations.SbcDecimalConservativeResult : Prop :=
  ∀ (s : State) (b1 b2 : Byte), s.p.d = true → s.params.decimalModel = .conservative → ∀ f ∈ sbcForms b1 b2,
    completes f.code f.instr s fun t =>
      let m := (f.operand s).value
      let u := (f.operand s).after
      sameMemory s t ∧ sameInputs s t ∧ t.io = u.io ∧ t.x = s.x ∧ t.y = s.y ∧ t.sp = s.sp
      ∧ t.p.i = s.p.i ∧ t.p.d = s.p.d
      ∧ (validBcd s.a = true ∧ validBcd m = true →
          let d : Int := (bcdValue s.a : Int) - bcdValue m - (1 - (s.p.c.toNat : Int))
          validBcd t.a = true ∧ (bcdValue t.a : Int) = d % 100 ∧ (t.p.c = true ↔ 0 ≤ d)
          ∧ t.p.n = Config.any1 u.draws ∧ t.p.v = Config.any1 (u.draws + 1) ∧ t.p.z = Config.any1 (u.draws + 2)
          ∧ t.draws = u.draws + 3)
      ∧ (¬(validBcd s.a = true ∧ validBcd m = true) →
          t.a = Config.any8 u.draws ∧ t.p.c = Config.any1 (u.draws + 1) ∧ t.p.n = Config.any1 (u.draws + 2)
          ∧ t.p.v = Config.any1 (u.draws + 3) ∧ t.p.z = Config.any1 (u.draws + 4) ∧ t.draws = u.draws + 5)

/-- For valid BCD operands the NMOS reference algorithm gives the A and C of the conservative rules (40_arith_logic
R143, its last sentence), for ADC and for SBC. The spec marks R143 as its own inference ("from general knowledge, not
in source"), which the model follows (log 15). -/
def Obligations.NmosAgreesOnValidBcd : Prop :=
  ∀ (a m : Byte) (p : Flags) (k : Nat), validBcd a = true → validBcd m = true →
    (adcNmos a m p).value = (adcConservative a m p k).value
    ∧ (adcNmos a m p).flags.c = (adcConservative a m p k).flags.c
    ∧ (sbcNmos a m p).value = (sbcConservative a m p k).value
    ∧ (sbcNmos a m p).flags.c = (sbcConservative a m p k).flags.c

/-- ADC and SBC with D = 1 under the NMOS reference model (40_arith_logic R143), in every form: ADC's Z is the binary
sum's; SBC's four flags are the binary difference's; both results' low digits and carries are the algorithm's. The spec
marks R143 as its own inference ("from general knowledge, not in source"), which the model follows (log 15). -/
def Obligations.DecimalNmosResult : Prop :=
  ∀ (s : State) (b1 b2 : Byte), s.p.d = true → s.params.decimalModel = .nmosReference →
    (∀ f ∈ adcForms b1 b2, readCompletes f s fun m t =>
      let al0 := s.a.toNat % 16 + m.toNat % 16 + s.p.c.toNat
      let al := if 0x0A ≤ al0 then (al0 + 6) % 16 + 0x10 else al0
      let t0 := s.a.toNat / 16 * 16 + m.toNat / 16 * 16 + al
      let t1 := if 0xA0 ≤ t0 then t0 + 0x60 else t0
      t.a.toNat = t1 % 256 ∧ (t.p.c = true ↔ 0x100 ≤ t1)
      ∧ (t.p.z = true ↔ (s.a.toNat + m.toNat + s.p.c.toNat) % 256 = 0)
      ∧ (t.p.n = true ↔ t0 / 128 % 2 = 1)
      ∧ (t.p.v = true ↔ s.a.getLsbD 7 = m.getLsbD 7 ∧ t0.testBit 7 ≠ s.a.getLsbD 7)
      ∧ t.p.i = s.p.i ∧ t.p.d = s.p.d ∧ t.x = s.x ∧ t.y = s.y)
    ∧ (∀ f ∈ sbcForms b1 b2, readCompletes f s fun m t =>
      let al0 : Int := (s.a.toNat % 16 : Nat) - (m.toNat % 16 : Nat) + (s.p.c.toNat : Int) - 1
      let al : Int := if al0 < 0 then (al0 - 6) % 16 - 0x10 else al0
      let t0 : Int := (s.a.toNat / 16 * 16 : Nat) - (m.toNat / 16 * 16 : Nat) + al
      let t1 : Int := if t0 < 0 then t0 - 0x60 else t0
      (t.a.toNat : Int) = t1 % 256 ∧ t.p = (sbcBinary s.a m s.p).flags ∧ t.x = s.x ∧ t.y = s.y)

/-- AND, EOR and ORA (40_arith_logic R133, R139, R140), in every form: A is the bitwise result, N and Z follow it, the
other flags stay. -/
def Obligations.LogicResults : Prop :=
  ∀ (s : State) (b1 b2 : Byte),
    (∀ f ∈ andForms b1 b2, readCompletes f s fun m t =>
      (∀ k, t.a.getLsbD k = (s.a.getLsbD k && m.getLsbD k)) ∧ t.x = s.x ∧ t.y = s.y
      ∧ t.p = { s.p with n := t.a.getLsbD 7, z := decide (t.a = 0) })
    ∧ (∀ f ∈ eorForms b1 b2, readCompletes f s fun m t =>
      (∀ k, t.a.getLsbD k = (s.a.getLsbD k ^^ m.getLsbD k)) ∧ t.x = s.x ∧ t.y = s.y
      ∧ t.p = { s.p with n := t.a.getLsbD 7, z := decide (t.a = 0) })
    ∧ (∀ f ∈ oraForms b1 b2, readCompletes f s fun m t =>
      (∀ k, t.a.getLsbD k = (s.a.getLsbD k || m.getLsbD k)) ∧ t.x = s.x ∧ t.y = s.y
      ∧ t.p = { s.p with n := t.a.getLsbD 7, z := decide (t.a = 0) })

/-- BIT (40_arith_logic R134), in both forms: Z says that A and M share no bit, N and V are bits 7 and 6 of M, and
nothing else changes. -/
def Obligations.BitResult : Prop :=
  ∀ (s : State) (b1 b2 : Byte), ∀ f ∈ bitForms b1 b2,
    readCompletes f s fun m t =>
      (t.p.z = true ↔ ∀ k, (s.a.getLsbD k && m.getLsbD k) = false) ∧ t.p.n = m.getLsbD 7 ∧ t.p.v = m.getLsbD 6
      ∧ t.p.c = s.p.c ∧ t.p.i = s.p.i ∧ t.p.d = s.p.d ∧ sameRegisters s t

/-- CMP, CPX and CPY (40_arith_logic R135 to R138), in every form: C is the unsigned comparison, Z the equality, N bit
7 of the difference modulo 256; no register changes. The spec marks that no carry-in takes part in R135 as its own
inference ("from general knowledge, not in source"), which the model follows (log 15). -/
def Obligations.CompareResults : Prop :=
  ∀ (s : State) (b1 b2 : Byte) (r : Byte),
    ∀ f, (r = s.a ∧ f ∈ cmpForms b1 b2) ∨ (r = s.x ∧ f ∈ cpxForms b1 b2) ∨ (r = s.y ∧ f ∈ cpyForms b1 b2) →
      readCompletes f s fun m t =>
        (t.p.c = true ↔ m.toNat ≤ r.toNat) ∧ (t.p.z = true ↔ r = m)
        ∧ (t.p.n = true ↔ 128 ≤ ((r.toNat : Int) - m.toNat) % 256)
        ∧ t.p.v = s.p.v ∧ t.p.i = s.p.i ∧ t.p.d = s.p.d ∧ sameRegisters s t

/-! ### Shifts, increments -/

/-- ASL and LSR (41_shift_rotate R151, R152): the Accumulator form writes A and touches no memory; the memory forms
write the shifted byte back at the address it was read from; C is the bit shifted out; LSR clears N. -/
def Obligations.ShiftResults : Prop :=
  ∀ (s : State) (b1 b2 : Byte),
    let aslByte : Byte → Byte := fun v => BitVec.ofNat 8 (v.toNat * 2 % 256)
    let aslFlags : Byte → Flags := fun v =>
      { s.p with n := (aslByte v).getLsbD 7, z := decide (aslByte v = 0), c := v.getLsbD 7 }
    let lsrByte : Byte → Byte := fun v => BitVec.ofNat 8 (v.toNat / 2)
    let lsrFlags : Byte → Flags := fun v => { s.p with n := false, z := decide (lsrByte v = 0), c := v.getLsbD 0 }
    implied 0x0A 2 .aslAcc s (fun t =>
      t.a = aslByte s.a ∧ t.p = aslFlags s.a ∧ t.x = s.x ∧ t.y = s.y ∧ t.sp = s.sp)
    ∧ (∀ f ∈ aslForms b1 b2, modifyCompletes f s aslByte aslFlags)
    ∧ implied 0x4A 2 .lsrAcc s (fun t =>
      t.a = lsrByte s.a ∧ t.p = lsrFlags s.a ∧ t.x = s.x ∧ t.y = s.y ∧ t.sp = s.sp)
    ∧ (∀ f ∈ lsrForms b1 b2, modifyCompletes f s lsrByte lsrFlags)

/-- ROL and ROR (41_shift_rotate R153, R154): the old carry enters at the free end, C is the bit shifted out, and N and
Z follow the result; nine of either restore the byte and C. -/
def Obligations.RotateResults : Prop :=
  ∀ (s : State) (b1 b2 : Byte),
    let rolByte : Byte → Byte := fun v => BitVec.ofNat 8 (v.toNat * 2 % 256 + s.p.c.toNat)
    let rolFlags : Byte → Flags := fun v =>
      { s.p with n := (rolByte v).getLsbD 7, z := decide (rolByte v = 0), c := v.getLsbD 7 }
    let rorByte : Byte → Byte := fun v => BitVec.ofNat 8 (v.toNat / 2 + 128 * s.p.c.toNat)
    let rorFlags : Byte → Flags := fun v =>
      { s.p with n := s.p.c, z := decide (rorByte v = 0), c := v.getLsbD 0 }
    implied 0x2A 2 .rolAcc s (fun t =>
      t.a = rolByte s.a ∧ t.p = rolFlags s.a ∧ t.x = s.x ∧ t.y = s.y ∧ t.sp = s.sp)
    ∧ (∀ f ∈ rolForms b1 b2, modifyCompletes f s rolByte rolFlags)
    ∧ implied 0x6A 2 .rorAcc s (fun t =>
      t.a = rorByte s.a ∧ t.p = rorFlags s.a ∧ t.x = s.x ∧ t.y = s.y ∧ t.sp = s.sp)
    ∧ (∀ f ∈ rorForms b1 b2, modifyCompletes f s rorByte rorFlags)
    ∧ runAll (List.replicate 9 .rolAcc) s (fun t => t.a = s.a ∧ t.p.c = s.p.c)
    ∧ runAll (List.replicate 9 .rorAcc) s (fun t => t.a = s.a ∧ t.p.c = s.p.c)

/-- DEC and INC (44_incdec R186, R189), in every form: the byte plus or minus one modulo 256 is written back where it
was read; N and Z follow it; C and V stay. Where the write is lost, the flags still follow the result. -/
def Obligations.IncDecMemoryResults : Prop :=
  ∀ (s : State) (b1 b2 : Byte),
    (∀ f ∈ decForms b1 b2, modifyCompletes f s (fun v => BitVec.ofNat 8 ((v.toNat + 255) % 256))
      (fun v => { s.p with n := decide (v = 0 ∨ 0x80 < v.toNat), z := decide (v = 1) }))
    ∧ (∀ f ∈ incForms b1 b2, modifyCompletes f s (fun v => BitVec.ofNat 8 ((v.toNat + 1) % 256))
      (fun v => { s.p with n := decide (0x7F ≤ v.toNat ∧ v.toNat < 0xFF), z := decide (v = 0xFF) }))

/-- DEX, DEY, INX and INY (44_incdec R187, R188, R190, R191): the register plus or minus one modulo 256, N and Z from
it, and no other register or flag. -/
def Obligations.IncDecRegisterResults : Prop :=
  ∀ s : State,
    implied 0xCA 2 .dex s (fun t => t.x.toNat = (s.x.toNat + 255) % 256 ∧ t.a = s.a ∧ t.y = s.y ∧ t.sp = s.sp
      ∧ t.p = { s.p with n := decide (128 ≤ t.x.toNat), z := decide (t.x = 0) })
    ∧ implied 0x88 2 .dey s (fun t => t.y.toNat = (s.y.toNat + 255) % 256 ∧ t.a = s.a ∧ t.x = s.x ∧ t.sp = s.sp
      ∧ t.p = { s.p with n := decide (128 ≤ t.y.toNat), z := decide (t.y = 0) })
    ∧ implied 0xE8 2 .inx s (fun t => t.x.toNat = (s.x.toNat + 1) % 256 ∧ t.a = s.a ∧ t.y = s.y ∧ t.sp = s.sp
      ∧ t.p = { s.p with n := decide (128 ≤ t.x.toNat), z := decide (t.x = 0) })
    ∧ implied 0xC8 2 .iny s (fun t => t.y.toNat = (s.y.toNat + 1) % 256 ∧ t.a = s.a ∧ t.x = s.x ∧ t.sp = s.sp
      ∧ t.p = { s.p with n := decide (128 ≤ t.y.toNat), z := decide (t.y = 0) })

/-! ### Branches, flags, jumps -/

/-- The eight branches (42_branch R161 to R169): each goes to pc0 + 2 plus the signed displacement, modulo 65536, when
its flag has its value, and to pc0 + 2 otherwise; nothing else changes. The spec marks the target arithmetic of R161 as
its own inference ("from general knowledge, not in source"), which the model follows (log 15). -/
def Obligations.BranchResults : Prop :=
  ∀ (s : State) (b1 : Byte) (op : Byte) (i : Instr) (cond : Bool),
    (op, i, cond) ∈ [ (0x90, .bcc b1, !s.p.c), (0xB0, .bcs b1, s.p.c), (0xF0, .beq b1, s.p.z), (0x30, .bmi b1, s.p.n),
      (0xD0, .bne b1, !s.p.z), (0x10, .bpl b1, !s.p.n), (0x50, .bvc b1, !s.p.v), (0x70, .bvs b1, s.p.v) ] →
    decode [op, b1] = .instr i [] ∧
      ∃ t, exec i s = .next t
        ∧ (t.pc.toNat : Int) = (s.pc.toNat + 2 + (if cond then b1.toInt else 0)) % 65536
        ∧ sameRegisters s t ∧ t.p = s.p ∧ sameMemory s t ∧ sameInputs s t ∧ sameBus s t

/-- The seven flag instructions (43_flag R175 to R182): each writes its one flag with its constant and nothing else. -/
def Obligations.FlagInstructionResults : Prop :=
  ∀ s : State,
    implied 0x18 2 .clc s (fun t => t.p = { s.p with c := false } ∧ sameRegisters s t)
    ∧ implied 0xD8 2 .cld s (fun t => t.p = { s.p with d := false } ∧ sameRegisters s t)
    ∧ implied 0x58 2 .cli s (fun t => t.p = { s.p with i := false } ∧ sameRegisters s t)
    ∧ implied 0xB8 2 .clv s (fun t => t.p = { s.p with v := false } ∧ sameRegisters s t)
    ∧ implied 0x38 2 .sec s (fun t => t.p = { s.p with c := true } ∧ sameRegisters s t)
    ∧ implied 0xF8 2 .sed s (fun t => t.p = { s.p with d := true } ∧ sameRegisters s t)
    ∧ implied 0x78 2 .sei s (fun t => t.p = { s.p with i := true } ∧ sameRegisters s t)

/-- JMP (45_jump_sub R196, R197): Absolute loads PC with the operand; Indirect loads it from the pointer, whose second
byte comes from the same page exactly when JMP_INDIRECT_PAGE_WRAP is true, low byte read first; for a pointer whose low
byte is not 0xFF the two settings agree. The spec marks R197 as its own inference ("from general knowledge, not in
source"), which the model follows (log 15). -/
def Obligations.JumpResults : Prop :=
  ∀ (s : State) (b1 b2 : Byte),
    let ptr := mkWord b2 b1
    let second : Word := if s.params.jmpIndirectPageWrap then mkWord b2 (b1 + 1) else ptr + 1
    let lo := s.load ptr
    let hi := lo.after.load second
    decode [0x4C, b1, b2] = .instr (.jmpAbs ptr) []
    ∧ (∃ t, exec (.jmpAbs ptr) s = .next t ∧ t.pc = ptr ∧ sameRegisters s t ∧ t.p = s.p ∧ sameMemory s t
        ∧ sameInputs s t ∧ sameBus s t)
    ∧ decode [0x6C, b1, b2] = .instr (.jmpInd ptr) []
    ∧ (∃ t, exec (.jmpInd ptr) s = .next t ∧ t.pc.toNat = hi.value.toNat * 256 + lo.value.toNat
        ∧ sameRegisters s t ∧ t.p = s.p ∧ sameMemory s t ∧ sameInputs s t ∧ sameBus hi.after t)
    ∧ (b1 ≠ 0xFF → mkWord b2 (b1 + 1) = ptr + 1)

/-- JSR (45_jump_sub R198): the address of its own last byte is pushed, high byte first, S goes down by two modulo 256,
and PC is the operand. The spec marks the push order in R198 and the stack of R26 as its own inference ("from general
knowledge, not in source"), which the model follows (log 15). -/
def Obligations.JsrResult : Prop :=
  ∀ (s : State) (b1 b2 : Byte),
    decode [0x20, b1, b2] = .instr (.jsr (mkWord b2 b1)) [] ∧
      ∃ t, exec (.jsr (mkWord b2 b1)) s = .next t ∧ t.pc = mkWord b2 b1
        ∧ t.stored (stackAddr s.sp) = hiByte (s.pc + 2) ∧ t.stored (stackAddr (s.sp - 1)) = loByte (s.pc + 2)
        ∧ (∀ addr : Word, addr ≠ stackAddr s.sp → addr ≠ stackAddr (s.sp - 1) → t.stored addr = s.stored addr)
        ∧ (t.sp.toNat : Int) = ((s.sp.toNat : Int) - 2) % 256
        ∧ t.a = s.a ∧ t.x = s.x ∧ t.y = s.y ∧ t.p = s.p ∧ sameInputs s t ∧ sameBus s t

/-- RTS (45_jump_sub R199): PC is the word above S, low byte first, plus one modulo 65536; S goes up by two modulo 256;
the stack bytes are read, not erased. The spec marks the stack of R26 as its own inference ("from general knowledge,
not in source"), which the model follows (log 15). -/
def Obligations.RtsResult : Prop :=
  ∀ s : State,
    decode [0x60] = .instr .rts [] ∧
      ∃ t, exec .rts s = .next t
        ∧ t.pc.toNat =
            ((s.stored (stackAddr (s.sp + 2))).toNat * 256 + (s.stored (stackAddr (s.sp + 1))).toNat + 1) % 65536
        ∧ t.sp.toNat = (s.sp.toNat + 2) % 256
        ∧ t.a = s.a ∧ t.x = s.x ∧ t.y = s.y ∧ t.p = s.p ∧ sameMemory s t ∧ sameInputs s t ∧ sameBus s t

/-- JSR and RTS as a pair (45_jump_sub R200): after anything that leaves S and the two stack bytes as JSR left them,
RTS continues at pc0 + 3 with S restored. The spec marks the stack of R26 as its own inference ("from general
knowledge, not in source"), which the model follows (log 15). -/
def Obligations.RtsReturnsAfterJsr : Prop :=
  ∀ (s t u : State) (oper : Word), exec (.jsr oper) s = .next t → sameTop 2 t u →
    ∃ w, exec .rts u = .next w ∧ w.pc = s.pc + 3 ∧ w.sp = s.sp

/-! ### Loads, stores, stack, transfers, system -/

/-- LDA, LDX and LDY (46_load_store R206 to R208), in every form: the register is the operand, N and Z follow it, and
the other registers and flags stay. -/
def Obligations.LoadResults : Prop :=
  ∀ (s : State) (b1 b2 : Byte),
    (∀ f ∈ ldaForms b1 b2, readCompletes f s fun m t => t.a = m ∧ t.x = s.x ∧ t.y = s.y
      ∧ t.p = { s.p with n := decide (128 ≤ m.toNat), z := decide (m = 0) })
    ∧ (∀ f ∈ ldxForms b1 b2, readCompletes f s fun m t => t.x = m ∧ t.a = s.a ∧ t.y = s.y
      ∧ t.p = { s.p with n := decide (128 ≤ m.toNat), z := decide (m = 0) })
    ∧ (∀ f ∈ ldyForms b1 b2, readCompletes f s fun m t => t.y = m ∧ t.a = s.a ∧ t.x = s.x
      ∧ t.p = { s.p with n := decide (128 ≤ m.toNat), z := decide (m = 0) })

/-- STA, STX and STY (46_load_store R209 to R211), in every form: the register is written at the effective address, by
the kind of the address, and no other byte, register or flag changes; the indexed stores of A take a fixed number of
cycles. -/
def Obligations.StoreResults : Prop :=
  ∀ (s : State) (b1 b2 : Byte),
    (∀ (v : Byte) (f : AddrForm),
      (v = s.a ∧ f ∈ staForms b1 b2) ∨ (v = s.x ∧ f ∈ stxForms b1 b2) ∨ (v = s.y ∧ f ∈ styForms b1 b2) →
        completes f.code f.instr s fun t =>
          sameRegisters s t ∧ t.p = s.p ∧ sameInputs s t ∧ wroteOnly s (f.ea s).after t (f.ea s).addr v)
    ∧ instrCycles (.staAbx (mkWord b2 b1)) s = 5 ∧ instrCycles (.staAby (mkWord b2 b1)) s = 5
    ∧ instrCycles (.staIzy b1) s = 6

/-- PHA and PHP (47_stack_transfer R216, R217): the byte goes to 0x0100 + S and S goes down by one modulo 256; PHP's
byte is N V 1 1 D I Z C. The spec marks the stack of R26 and bit 4 in R217 as its own inference ("from general
knowledge, not in source"), which the model follows (log 15). -/
def Obligations.PushResults : Prop :=
  ∀ s : State,
    (∀ (op v : Byte) (i : Instr), (op, i, v) ∈ [(0x48, .pha, s.a), (0x08, .php, s.p.pack true)] →
      completes [op] i s fun t =>
        (∀ b : Word, b.toNat ≠ 0x100 + s.sp.toNat → t.stored b = s.stored b)
        ∧ t.stored (BitVec.ofNat 16 (0x100 + s.sp.toNat)) = v
        ∧ (t.sp.toNat : Int) = ((s.sp.toNat : Int) - 1) % 256
        ∧ t.a = s.a ∧ t.x = s.x ∧ t.y = s.y ∧ t.p = s.p ∧ sameInputs s t ∧ sameBus s t)
    ∧ (s.p.pack true).toNat =
        128 * s.p.n.toNat + 64 * s.p.v.toNat + 32 + 16 + 8 * s.p.d.toNat + 4 * s.p.i.toNat + 2 * s.p.z.toNat
          + s.p.c.toNat

/-- PLA and PLP (47_stack_transfer R218, R219): S goes up by one modulo 256 and the byte at 0x0100 + S is read; PLA
writes N and Z exactly when PLA_SETS_NZ is true; PLP writes all six flags and ignores bits 5 and 4. The spec marks the
stack of R26 and PLA's N and Z in R218 as its own inference ("from general knowledge, not in source"), which the model
follows (log 15). -/
def Obligations.PullResults : Prop :=
  ∀ s : State,
    let v := s.mem.read (0x100 + (s.sp.toNat + 1) % 256)
    implied 0x68 4 .pla s (fun t => t.a = v ∧ t.x = s.x ∧ t.y = s.y ∧ t.sp.toNat = (s.sp.toNat + 1) % 256
      ∧ t.p = (if s.params.plaSetsNZ then { s.p with n := decide (128 ≤ v.toNat), z := decide (v = 0) } else s.p))
    ∧ implied 0x28 4 .plp s (fun t => t.a = s.a ∧ t.x = s.x ∧ t.y = s.y ∧ t.sp.toNat = (s.sp.toNat + 1) % 256
      ∧ t.p = { n := v.getLsbD 7, v := v.getLsbD 6, d := v.getLsbD 3, i := v.getLsbD 2, z := v.getLsbD 1,
                c := v.getLsbD 0 })

/-- The six transfers and NOP (47_stack_transfer R220 to R225; 48_system R231): the destination is the source, N and Z
follow it, but TXS writes no flag, and NOP changes nothing but PC. -/
def Obligations.TransferAndNopResults : Prop :=
  ∀ s : State,
    let nz : Byte → Flags := fun v => { s.p with n := decide (128 ≤ v.toNat), z := decide (v.toNat = 0) }
    implied 0xAA 2 .tax s (fun t => t.x = s.a ∧ t.p = nz s.a ∧ t.a = s.a ∧ t.y = s.y ∧ t.sp = s.sp)
    ∧ implied 0xA8 2 .tay s (fun t => t.y = s.a ∧ t.p = nz s.a ∧ t.a = s.a ∧ t.x = s.x ∧ t.sp = s.sp)
    ∧ implied 0xBA 2 .tsx s (fun t => t.x = s.sp ∧ t.p = nz s.sp ∧ t.a = s.a ∧ t.y = s.y ∧ t.sp = s.sp)
    ∧ implied 0x8A 2 .txa s (fun t => t.a = s.x ∧ t.p = nz s.x ∧ t.x = s.x ∧ t.y = s.y ∧ t.sp = s.sp)
    ∧ implied 0x9A 2 .txs s (fun t => t.sp = s.x ∧ t.p = s.p ∧ t.a = s.a ∧ t.x = s.x ∧ t.y = s.y)
    ∧ implied 0x98 2 .tya s (fun t => t.a = s.y ∧ t.p = nz s.y ∧ t.x = s.x ∧ t.y = s.y ∧ t.sp = s.sp)
    ∧ implied 0xEA 2 .nop s (fun t => sameRegisters s t ∧ t.p = s.p)

/-- BRK (48_system R230; 60_exceptions R247): pc0 + 2 and then P with B = 1 are pushed, whatever I is; I becomes 1; PC
comes from the vector at 0xFFFE; the inputs and the other flags stay. The spec marks the vector, the push order and the
B bit in R230 as its own inference ("from general knowledge, not in source"), which the model follows (log 15). -/
def Obligations.BrkResult : Prop :=
  ∀ s : State,
    decode [0x00] = .instr .brk [] ∧
      ∃ t, exec .brk s = .next t ∧ entered s t (s.pc + 2) true 0xFFFE ∧ sameInputs s t

/-- RTI (48_system R232): P from the first byte above S, bits 5 and 4 ignored, then PC low, then PC high, with nothing
added; S goes up by three modulo 256. The spec marks the order of the two address bytes in R232 and the stack of R26 as
its own inference ("from general knowledge, not in source"), which the model follows (log 15). -/
def Obligations.RtiResult : Prop :=
  ∀ s : State,
    let v := s.stored (stackAddr (s.sp + 1))
    decode [0x40] = .instr .rti [] ∧
      ∃ t, exec .rti s = .next t
        ∧ t.p = { n := v.getLsbD 7, v := v.getLsbD 6, d := v.getLsbD 3, i := v.getLsbD 2, z := v.getLsbD 1,
                  c := v.getLsbD 0 }
        ∧ t.pc.toNat = (s.stored (stackAddr (s.sp + 3))).toNat * 256 + (s.stored (stackAddr (s.sp + 2))).toNat
        ∧ t.sp.toNat = (s.sp.toNat + 3) % 256
        ∧ t.a = s.a ∧ t.x = s.x ∧ t.y = s.y ∧ sameMemory s t ∧ sameInputs s t ∧ sameBus s t

/-! ### Interrupts and reset -/

/-- The common entry of BRK, IRQ and NMI (60_exceptions R246), through either of its two vectors, 0xFFFA and 0xFFFE:
three bytes are pushed, I as it was before goes into the pushed P, I becomes 1, D and the other flags stay, A, X, Y
stay, PC comes from the vector. The spec marks R246 as its own inference ("from general knowledge, not in source"),
which the model follows (log 15). -/
def Obligations.InterruptEntryEffect : Prop :=
  ∀ (s : State) (ret : Word) (b : Bool) (vec : Word), vec = nmiVector ∨ vec = irqVector →
    entered s (s.interruptEntry ret b vec) ret b vec ∧ sameInputs s (s.interruptEntry ret b vec)

/-- An IRQ is taken at a boundary at which it is asserted, I is 0 and neither reset nor NMI is pending (60_exceptions
R242, R248): the entry with B = 0, PC as the return address, through 0xFFFE; irq_line is not changed by it. The spec
marks R242, R243 and R248 as its own inference ("from general knowledge, not in source"), which the model follows (log
15). -/
def Obligations.IrqTaken : Prop :=
  ∀ s : State, s.sampleInputs.resetPending = false → s.sampleInputs.nmiPending = false →
    s.sampleInputs.irqLine = true → s.p.i = false →
    ∃ t, step s = .next t ∧ entered s t s.pc false 0xFFFE ∧ sameInputs s.sampleInputs t

/-- An NMI is taken at a boundary at which it is pending and reset is not (60_exceptions R242, R244, R249), whatever I
and irq_line are: the entry with B = 0 through 0xFFFA; nmi_pending is cleared, irq_line and the schedule are not
touched. The spec marks R242, R244 and R249 as its own inference ("from general knowledge, not in source"), which the
model follows (log 15). -/
def Obligations.NmiTaken : Prop :=
  ∀ s : State, s.sampleInputs.resetPending = false → s.sampleInputs.nmiPending = true →
    ∃ t, step s = .next t ∧ entered s t s.pc false 0xFFFA ∧ t.nmiPending = false
      ∧ t.irqLine = s.sampleInputs.irqLine ∧ t.resetPending = false ∧ t.schedule = s.sampleInputs.schedule

/-- Reset is taken at a boundary at which it is pending, before everything else (60_exceptions R242, R250): both
latches are cleared, S goes down by three with nothing written, I becomes 1, PC comes from 0xFFFC, everything else
stays. The spec marks R242 and R250 as its own inference ("from general knowledge, not in source"), which the model
follows (log 15). -/
def Obligations.ResetTaken : Prop :=
  ∀ s : State, s.sampleInputs.resetPending = true →
    ∃ t, step s = .next t ∧ t.resetPending = false ∧ t.nmiPending = false
      ∧ (t.sp.toNat : Int) = ((s.sp.toNat : Int) - 3) % 256 ∧ t.p = { s.p with i := true }
      ∧ t.pc.toNat = (s.mem.read 0xFFFD).toNat * 256 + (s.mem.read 0xFFFC).toNat
      ∧ t.a = s.a ∧ t.x = s.x ∧ t.y = s.y ∧ sameMemory s t ∧ sameBus s t ∧ t.params = s.params
      ∧ t.irqLine = s.sampleInputs.irqLine ∧ t.schedule = s.sampleInputs.schedule

/-- How the schedule reaches the inputs (60_exceptions R242 to R244; 10_state R40): irq_line follows its level, NMI
edges and reset requests are latched until taken. That the inputs stay when the schedule has run out is the model's own
choice (log 9). The spec marks R40 and R242 to R244 as its own inference ("from general knowledge, not in source"),
which the model follows (log 15). -/
def Obligations.InputsAreSampled : Prop :=
  ∀ (s : State) (b : BoundaryInput) (rest : List BoundaryInput),
    (s.schedule = b :: rest →
      s.sampleInputs.irqLine = b.irqLine ∧ s.sampleInputs.schedule = rest
      ∧ (s.sampleInputs.nmiPending = true ↔ s.nmiPending = true ∨ b.nmiEdge = true)
      ∧ (s.sampleInputs.resetPending = true ↔ s.resetPending = true ∨ b.resetRequest = true)
      ∧ sameRegisters s s.sampleInputs ∧ s.sampleInputs.p = s.p ∧ s.sampleInputs.pc = s.pc
      ∧ sameMemory s s.sampleInputs ∧ sameBus s s.sampleInputs ∧ s.sampleInputs.params = s.params)
    ∧ (s.schedule = [] → s.sampleInputs = s)

/-- After any entry by IRQ, NMI or reset, no IRQ is taken at the next boundary, whatever the schedule brings
(60_exceptions R245, R252). The spec marks R245 and R252 as its own inference ("from general knowledge, not in
source"), which the model follows (log 15). -/
def Obligations.EntryMasksIrq : Prop :=
  ∀ s t : State, s.sampleInputs.event ≠ .instruction → step s = .next t → t.sampleInputs.event ≠ .irq

/-- RTI undoes an entry (60_exceptions R251; 48_system R232): after anything that leaves S and the three stack bytes as
the entry left them, RTI restores all six flags and S and continues at the return address. The spec marks R246 and the
stack of R26 as its own inference ("from general knowledge, not in source"), which the model follows (log 15). -/
def Obligations.RtiUndoesEntry : Prop :=
  ∀ (s u : State) (ret : Word) (b : Bool) (vec : Word), vec = nmiVector ∨ vec = irqVector →
    sameTop 3 (s.interruptEntry ret b vec) u →
    ∃ w, exec .rti u = .next w ∧ w.pc = ret ∧ w.p = s.p ∧ w.sp = s.sp

/-- A handler tells BRK from an interrupt (60_exceptions R254; 10_state R33, R34): right after the entry that a BRK, an
IRQ or an NMI makes, the status byte at the top of the stack has bit 4 set for BRK and clear for IRQ and NMI, bit 5 set
always, and the flags as they were before the entry. The spec marks R33 and R254 as its own inference ("from general
knowledge, not in source"), which the model follows (log 15). -/
def Obligations.BreakBitTellsBrk : Prop :=
  ∀ s : State,
    (∃ t, exec .brk s = .next t ∧ statusPushed t true s.p)
    ∧ statusPushed s.irqEntry false s.p
    ∧ statusPushed s.nmiEntry false s.p
    ∧ (∀ t, s.sampleInputs.event = .irq ∨ s.sampleInputs.event = .nmi → step s = .next t → statusPushed t false s.p)

/-! ### The step -/

/-- When the bytes at PC are those of an instruction, step at a boundary without an event is exec of that instruction
(30_encoding R99; 60_exceptions R242), at the state after the inputs were sampled and its bytes were read. The spec
marks R99 as its own inference ("from general knowledge, not in source"), which the model follows (log 15). -/
def Obligations.StepRunsDecodedInstruction : Prop :=
  ∀ (s after : State) (i : Instr), i.wellFormed = true → s.sampleInputs.event = .instruction →
    State.readBytes i.bytes s.sampleInputs.pc s.sampleInputs = (encode i, after) → step s = exec i after

/-- Where the bytes at PC lie in RAM or ROM, the fetch changes nothing, so step is exec at the state after the inputs
were sampled; the bytes are those stored at this moment, so a store by the instruction before is seen (20_memory R75).
The spec marks R75 and R99 as its own inference ("from general knowledge, not in source"), which the model follows (log
15). -/
def Obligations.StepRunsStoredInstruction : Prop :=
  ∀ (s : State) (i : Instr), s.sampleInputs.event = .instruction →
    (∀ k : Nat, k < i.bytes →
      (s.kindAt (s.pc + BitVec.ofNat 16 k) = .ram ∨ s.kindAt (s.pc + BitVec.ofNat 16 k) = .rom)
      ∧ s.stored (s.pc + BitVec.ofNat 16 k) = (encode i).getD k 0) →
    step s = exec i s.sampleInputs

/-- At a boundary without an event, step refuses exactly when the byte fetched as the opcode is one of the 105 unlisted
ones, with the byte and the address, and answers a next state otherwise (30_encoding R97; 60_exceptions R240). The spec
marks R240 as its own inference ("from general knowledge, not in source"), which the model follows (log 15). -/
def Obligations.StepRefusesExactlyUnlisted : Prop :=
  ∀ s : State, s.sampleInputs.event = .instruction →
    if s.sampleInputs.peek s.pc ∈ unlistedOpcodes then
      step s = .refused (.illegalOpcode (s.sampleInputs.peek s.pc) s.pc)
    else ∃ t, step s = .next t

/-- Every instruction completes in every state, and ends with PC at pc0 + L unless its own rule writes PC; a branch
that is not taken ends there too (10_state R25; 60_exceptions R240). The spec marks R24 and R240 as its own inference
("from general knowledge, not in source"), which the model follows (log 15). -/
def Obligations.EveryInstructionCompletes : Prop :=
  ∀ (i : Instr) (s : State),
    ∃ t, exec i s = .next t
      ∧ (i.row.mnemonic ∉ writesPC → t.pc = s.pc + BitVec.ofNat 16 i.bytes)
      ∧ (i.row.mode = .rel →
          t.pc = if branchTaken i s then relativeTarget s.pc (i.operandBytes.getD 0 0) else s.pc + 2)

/-- A finished run stays finished (70_reset_and_hazards R294): from a final state every step answers a state that is
final too and differs from it at most in the inputs and the schedule still to come. A final state is one whose pending
events and whose schedule bring no reset, no NMI and no IRQ that I lets through, which is how the model reads the
premise "no interrupts" of R294 (DEDUCED, log 16). -/
def Obligations.FinalStateStays : Prop :=
  ∀ s : State, s.isFinal = true →
    ∃ t, step s = .next t ∧ t.isFinal = true ∧ t.pc = s.pc ∧ t.p = s.p ∧ sameRegisters s t ∧ t.mem = s.mem
      ∧ sameBus s t ∧ t.params = s.params

/-! ### Rules over all instructions -/

/-- An instruction that 10_state R37 does not list as writing a register leaves it, the Accumulator forms of the shifts
being the only ones of theirs that write A. -/
def Obligations.RegistersWrittenAsListed : Prop :=
  ∀ (i : Instr) (s t : State), exec i s = .next t →
    (i.row.mnemonic ∉ writesA → i.row.mode ≠ .acc → t.a = s.a)
    ∧ (i.row.mnemonic ∉ writesX → t.x = s.x) ∧ (i.row.mnemonic ∉ writesY → t.y = s.y)
    ∧ (i.row.mnemonic ∉ writesS → t.sp = s.sp)

/-- The flag rows of 10_state R36: a flag that an instruction's row marks "no change" is unchanged, and a flag marked
with a constant has it (LSR's N, BRK's I, and the one flag of each of CLC, CLD, CLI, CLV, SEC, SED and SEI); PLA's N
and Z follow PLA_SETS_NZ. The spec marks what a PLA writes in R36 as its own inference ("from general knowledge, not in
source"), which the model follows (log 15). -/
def Obligations.FlagRowsHold : Prop :=
  ∀ (i : Instr) (s t : State), exec i s = .next t →
    (i.row.mnemonic ∉ writesZ → t.p.n = s.p.n ∧ t.p.z = s.p.z)
    ∧ (i.row.mnemonic = .pla → s.params.plaSetsNZ = false → t.p.n = s.p.n ∧ t.p.z = s.p.z)
    ∧ (i.row.mnemonic ∉ writesC → t.p.c = s.p.c) ∧ (i.row.mnemonic ∉ writesI → t.p.i = s.p.i)
    ∧ (i.row.mnemonic ∉ writesD → t.p.d = s.p.d) ∧ (i.row.mnemonic ∉ writesV → t.p.v = s.p.v)
    ∧ (i.row.mnemonic = .lsr → t.p.n = false) ∧ (i.row.mnemonic = .brk → t.p.i = true)
    ∧ (i.row.mnemonic = .clc → t.p.c = false) ∧ (i.row.mnemonic = .sec → t.p.c = true)
    ∧ (i.row.mnemonic = .cld → t.p.d = false) ∧ (i.row.mnemonic = .sed → t.p.d = true)
    ∧ (i.row.mnemonic = .cli → t.p.i = false) ∧ (i.row.mnemonic = .sei → t.p.i = true)
    ∧ (i.row.mnemonic = .clv → t.p.v = false)

/-- Only the stores, the read-modify-write instructions and the pushes write memory; the pushes reach only
0x0100-0x01FF, and the zero-page forms only 0x0000-0x00FF (20_memory R54, R59). The spec marks the stack of R26 and the
unmodelled accesses of R54 as its own inference ("from general knowledge, not in source"), which the model follows (log
15). -/
def Obligations.MemoryWrittenAsListed : Prop :=
  ∀ (i : Instr) (s t : State), exec i s = .next t →
    (i.row.mnemonic ∉ storesAtEa → i.row.mnemonic ∉ pushes → sameMemory s t)
    ∧ (i.row.mode = .acc → sameMemory s t)
    ∧ (i.row.mnemonic ∈ pushes →
        ∀ addr : Word, addr.toNat < 0x100 ∨ 0x1FF < addr.toNat → t.stored addr = s.stored addr)
    ∧ (i.row.mode = .zp ∨ i.row.mode = .zpx ∨ i.row.mode = .zpy →
        ∀ addr : Word, 0xFF < addr.toNat → t.stored addr = s.stored addr)

/-- No instruction reads or writes the pending-interrupt state or the schedule, and none writes the parameters: its
result does not depend on the inputs, and they and the parameters are as before (60_exceptions R243, R251; 10_state
R41). It compares two runs whose draw counters and device histories agree, which then draw the same values and get the
same device answers: the model's own choice (DESIGN CHOICE, unsafe for two runs: log 7, log 8). The spec marks R40 and
R243 as its own inference ("from general knowledge, not in source"), which the model follows (log 15). -/
def Obligations.InstructionsIgnoreInputs : Prop :=
  ∀ (i : Instr) (s t : State) (irq nmi reset : Bool) (sched : List BoundaryInput), exec i s = .next t →
    exec i { s with irqLine := irq, nmiPending := nmi, resetPending := reset, schedule := sched }
        = .next { t with irqLine := irq, nmiPending := nmi, resetPending := reset, schedule := sched }
      ∧ sameInputs s t

/-- No instruction but ADC and SBC depends on D (10_state R31): with another D, everything but D is the same. PHP, BRK,
PLP, RTI, CLD and SED, which store or write D itself, are left out here and stated by PushResults, BrkResult,
PullResults, RtiResult and FlagInstructionResults. It compares two runs whose draw counters and device histories agree,
which then draw the same values and get the same device answers: the model's own choice (DESIGN CHOICE, unsafe for two
runs: log 7, log 8). The spec marks R31, on the other instructions, as its own inference ("from general knowledge, not
in source"), which the model follows (log 15). -/
def Obligations.DecimalFlagScope : Prop :=
  ∀ (i : Instr) (s t : State) (d : Bool),
    i.row.mnemonic ∉ [Mnemonic.adc, .sbc, .php, .brk, .plp, .rti, .cld, .sed] → exec i s = .next t →
    exec i { s with p := { s.p with d := d } } = .next { t with p := { t.p with d := d } }

/-! ### Memory -/

/-- RAM, ROM and empty addresses (20_memory R62, R64, R65): RAM returns the last byte written, and a write changes no
other byte; a write to ROM or to an empty address is lost; a read of ROM or RAM changes nothing; a read of an empty
address is a draw, and the next read of it is another. R64 says only that each is a fresh byte; which draw it is, by a
counter, is the model's own choice (DESIGN CHOICE, log 7). The spec marks R64 and the lost writes of R65 as its own
inference ("from general knowledge, not in source"), which the model follows (log 15). -/
def Obligations.ReadAndWriteByKind : Prop :=
  ∀ (s : State) (addr : Word) (v : Byte),
    (s.kindAt addr = .ram → (s.store addr v).peek addr = v ∧ (s.store addr v).io = s.io ∧ s.afterRead addr = s
      ∧ s.peek addr = s.stored addr)
    ∧ (∀ b, b ≠ addr → (s.store addr v).stored b = s.stored b)
    ∧ (s.kindAt addr = .rom → s.store addr v = s ∧ s.afterRead addr = s ∧ s.peek addr = s.stored addr)
    ∧ (s.kindAt addr = .empty → s.store addr v = s ∧ s.peek addr = Config.any8 s.draws
      ∧ (s.afterRead addr).peek addr = Config.any8 (s.draws + 1))

/-- Colour RAM and devices (20_memory R66, R67): with 4 bits the low half of the byte written is read back under four
drawn bits, with 8 bits the whole byte; a device read is the oracle's answer for the history so far, and both kinds of
device access join the history and change no stored byte. Which draw the four bits are, by a counter (log 7), and the
history as a list with the newest access first (log 8) are the model's own choices (DESIGN CHOICE). The spec marks the
width of R67 as its own inference ("from general knowledge, not in source"), which the model follows (log 15). -/
def Obligations.ColourRamAndDevices : Prop :=
  ∀ (s : State) (addr : Word) (v : Byte),
    (s.kindAt addr = .colour → s.params.colorRamWidth = .four →
      ((s.store addr v).peek addr).toNat = (Config.any4 s.draws).toNat * 16 + v.toNat % 16
      ∧ (s.afterRead addr).draws = s.draws + 1)
    ∧ (s.kindAt addr = .colour → s.params.colorRamWidth = .eight →
      (s.store addr v).peek addr = v ∧ s.afterRead addr = s)
    ∧ (s.kindAt addr = .device →
      s.peek addr = Config.ioRead s.io addr ∧ (s.afterRead addr).io = .read addr (s.peek addr) :: s.io
      ∧ (s.store addr v).io = .write addr v :: s.io ∧ sameMemory s (s.afterRead addr) ∧ sameMemory s (s.store addr v))

/-- The address map (20_memory R60, R63): which addresses are RAM, ROM, devices and colour RAM in every configuration,
and what each expansion block is under MEMORY_CONFIG. -/
def Obligations.AddressMapKinds : Prop :=
  ∀ (s : State) (addr : Word),
    let a := addr.toNat
    (a ≤ 0x03FF → s.kindAt addr = .ram) ∧ (0x1000 ≤ a ∧ a ≤ 0x1FFF → s.kindAt addr = .ram)
    ∧ (0x0400 ≤ a ∧ a ≤ 0x0FFF → s.kindAt addr = if s.params.block0400 = .ram then .ram else .empty)
    ∧ (0x2000 ≤ a ∧ a ≤ 0x3FFF → s.kindAt addr =
        if s.params.block2000 = .ram then .ram else if s.params.block2000 = .rom then .rom else .empty)
    ∧ (0x4000 ≤ a ∧ a ≤ 0x5FFF → s.kindAt addr =
        if s.params.block4000 = .ram then .ram else if s.params.block4000 = .rom then .rom else .empty)
    ∧ (0x6000 ≤ a ∧ a ≤ 0x7FFF → s.kindAt addr =
        if s.params.block6000 = .ram then .ram else if s.params.block6000 = .rom then .rom else .empty)
    ∧ (0x8000 ≤ a ∧ a ≤ 0x8FFF → s.kindAt addr = .rom)
    ∧ (0x9000 ≤ a ∧ a ≤ 0x93FF → s.kindAt addr = .device)
    ∧ (0x9400 ≤ a ∧ a ≤ 0x97FF → s.kindAt addr = .colour)
    ∧ (0x9800 ≤ a ∧ a ≤ 0x9FFF → s.kindAt addr = .device)
    ∧ (0xA000 ≤ a ∧ a ≤ 0xBFFF → s.kindAt addr = if s.params.blockA000 = .rom then .rom else .empty)
    ∧ (0xC000 ≤ a → s.kindAt addr = .rom)

/-! ### Invariants and reset -/

/-- Every step keeps the invariant: the memory stays in its canonical form and lists only bytes that their addresses
hold, so no write to an empty address or to a device is ever stored. -/
def Obligations.StepKeepsInvariant : Prop :=
  ∀ s t : State, s.Inv → step s = .next t → t.Inv

/-- No run changes a ROM byte, the parameters, or a byte of a device or an empty address (20_memory R64 to R66;
10_state R41): ROM_IMAGE is a constant for the whole run. The spec marks the lost writes of R64 and R65 as its own
inference ("from general knowledge, not in source"), which the model follows (log 15). -/
def Obligations.RunKeepsRomAndParameters : Prop :=
  ∀ (n : Nat) (s t : State), Sys2Proof.core.run n s = .next t →
    t.params = s.params ∧ ∀ addr : Word, s.kindAt addr ≠ .ram → s.kindAt addr ≠ .colour → t.stored addr = s.stored addr

/-- What a power-on reset leaves, for every draw of what the spec leaves open (10_state R42): I is 1, nothing is
pending, PC is the word at 0xFFFC, and the registers, the other flags and the memory are the draw's. The spec marks R42
and R250 as its own inference ("from general knowledge, not in source"), which the model follows (log 15). -/
def Obligations.PowerOnState : Prop :=
  ∀ o : PowerOn,
    let s := State.powerOn o
    s.p.i = true ∧ s.nmiPending = false ∧ s.resetPending = false ∧ s.irqLine = false
    ∧ s.pc.toNat = (s.stored 0xFFFD).toNat * 256 + (s.stored 0xFFFC).toNat
    ∧ s.a = o.a ∧ s.x = o.x ∧ s.y = o.y ∧ s.sp = o.sp ∧ s.p.n = o.n ∧ s.p.v = o.v ∧ s.p.d = o.d ∧ s.p.z = o.z
    ∧ s.p.c = o.c ∧ s.mem = o.mem ∧ s.params = o.params

/-- The reset state is a power-on state and meets the invariant. -/
def Obligations.ResetMeetsInvariant : Prop := State.reset.Inv ∧ ∃ o : PowerOn, State.reset = State.powerOn o

/-! ### Timing -/

/-- The cycle counts beside the machine (70_reset_and_hazards R289 to R291): every instruction takes the cycles the
table of R289 lists for it, and one more exactly when it reads in Absolute,X, Absolute,Y or (Indirect),Y mode and its
indexed address lies in another page than its base address; the stores and read-modify-write instructions in those
modes always take the longer time (STA 5, 5 and 6, the others 7 in Absolute,X); a taken branch takes one more to the
page of the next instruction and two more to another. That the counts stand beside the machine, and that the page rules
are read in the state the instruction starts in, is the model's reading (DEDUCED, log 14). The spec marks the
definitions of a crossed page in R107, R108, R110 and R111 as its own inference ("from general knowledge, not in
source"), which the model follows (log 15). -/
def Obligations.CycleCounts : Prop :=
  ∀ (i : Instr) (s : State),
    let listed := listedCycles i.row.mode i.row.mnemonic
    let starred := (i.row.mode = .abx ∨ i.row.mode = .aby ∨ i.row.mode = .izy) ∧ i.row.mnemonic ∉ storesAtEa
    (starred → instrCycles i s = listed + (if leavesPage i s then 1 else 0))
    ∧ (i.row.mode = .rel →
        instrCycles i s =
          if branchTaken i s then
            (if hiByte (relativeTarget s.pc (i.operandBytes.getD 0 0)) = hiByte (s.pc + 2) then 3 else 4)
          else 2)
    ∧ (¬starred → i.row.mode ≠ .rel → instrCycles i s = listed)
    ∧ (i.row.mnemonic = .sta →
        (i.row.mode = .abx → instrCycles i s = 5) ∧ (i.row.mode = .aby → instrCycles i s = 5)
        ∧ (i.row.mode = .izy → instrCycles i s = 6))
    ∧ (i.row.mnemonic ∈ modifies → i.row.mode = .abx → instrCycles i s = 7)

/-! ### Boundaries without an event -/

/-- The last branch of 60_exceptions R242, and a masked IRQ (R243; vector E3): a boundary executes an instruction
exactly when neither reset nor NMI is pending and irq_line is 0 or I is 1; the step is then exec of the instruction
whose bytes lie at PC, with nothing else done, and a request that is masked stays. The spec marks R99, R242 and R243 as
its own inference ("from general knowledge, not in source"), which the model follows (log 15). -/
def Obligations.InstructionRunsWithoutEvent : Prop :=
  ∀ s : State,
    (s.sampleInputs.event = .instruction ↔
      s.sampleInputs.resetPending = false ∧ s.sampleInputs.nmiPending = false
        ∧ (s.sampleInputs.irqLine = false ∨ s.p.i = true))
    ∧ (s.sampleInputs.resetPending = false → s.sampleInputs.nmiPending = false →
        s.sampleInputs.irqLine = false ∨ s.p.i = true →
        (∀ (i : Instr) (after : State), i.wellFormed = true →
          State.readBytes i.bytes s.sampleInputs.pc s.sampleInputs = (encode i, after) → step s = exec i after)
        ∧ ∀ t, step s = .next t → t.irqLine = s.sampleInputs.irqLine)
end

