-- ==== Sys2Proof/Laws/Memory.lean ====
section
/-! SUPPORT. The laws of the stored bytes: a read after a write, and the canonical form (spec 20_memory R62, R72). -/

namespace Sys2Proof.Machine

@[simp] theorem Memory.read_nil (k : Nat) : Memory.read [] k = Memory.unlisted := rfl

theorem Memory.read_cons (c : Host.Cell) (m : Memory) (k : Nat) :
    Memory.read (c :: m) k = if c.1 = k then c.2 else Memory.read m k := rfl

theorem Memory.read_erase_same (m : Memory) (k : Nat) : (Memory.erase m k).read k = Memory.unlisted := by
  induction m with
  | nil => rfl
  | cons c m ih =>
    by_cases h : c.1 = k
    · simpa [Memory.erase, h] using ih
    · simpa [Memory.erase, h, Memory.read_cons] using ih

theorem Memory.read_erase_other (m : Memory) {k j : Nat} (h : j ≠ k) : (Memory.erase m k).read j = m.read j := by
  induction m with
  | nil => rfl
  | cons c m ih =>
    by_cases hk : c.1 = k
    · have hj : c.1 ≠ j := by omega
      simpa [Memory.erase, hk, Memory.read_cons, h.symm] using ih
    · simpa [Memory.erase, hk, Memory.read_cons] using congrArg (fun b => if c.1 = j then c.2 else b) ih

theorem Memory.read_insert_other (m : Memory) {k j : Nat} (v : Byte) (h : j ≠ k) :
    (Memory.insert m k v).read j = m.read j := by
  induction m with
  | nil => simp [Memory.insert, Memory.read_cons, h.symm]
  | cons c m ih =>
    by_cases hk : k < c.1
    · simp [Memory.insert, hk, Memory.read_cons, h.symm]
    · simp [Memory.insert, hk, Memory.read_cons, ih]

theorem Memory.mem_erase_key {m : Memory} {k : Nat} {c : Host.Cell} (h : c ∈ Memory.erase m k) : c.1 ≠ k := by
  simpa using (List.mem_filter.1 h).2

theorem Memory.read_insert_same (m : Memory) (k : Nat) (v : Byte) (h : ∀ c ∈ m, c.1 ≠ k) :
    (Memory.insert m k v).read k = v := by
  induction m with
  | nil => simp [Memory.insert, Memory.read_cons]
  | cons c m ih =>
    by_cases hk : k < c.1
    · simp [Memory.insert, hk, Memory.read_cons]
    · have hc : c.1 ≠ k := h c (by simp)
      simpa [Memory.insert, hk, Memory.read_cons, hc] using ih (fun d hd => h d (by simp [hd]))

/-- A byte that was written is read back. -/
@[simp] theorem Memory.read_write_same (m : Memory) (k : Nat) (v : Byte) : (m.write k v).read k = v := by
  unfold Memory.write
  split
  · next h => rw [Memory.read_erase_same, h]
  · exact Memory.read_insert_same _ _ _ (fun _ hc => Memory.mem_erase_key hc)

/-- A write leaves every other byte alone. -/
theorem Memory.read_write_other (m : Memory) {k j : Nat} (v : Byte) (h : j ≠ k) : (m.write k v).read j = m.read j := by
  unfold Memory.write
  split
  · exact Memory.read_erase_other m h
  · rw [Memory.read_insert_other _ _ h, Memory.read_erase_other m h]

theorem Memory.read_write (m : Memory) (k j : Nat) (v : Byte) :
    (m.write k v).read j = if j = k then v else m.read j := by
  split
  · next h => rw [h, Memory.read_write_same]
  · next h => exact Memory.read_write_other m v h

theorem Memory.wfFrom_cons (lo : Nat) (c : Host.Cell) (m : Memory) :
    Memory.wfFrom lo (c :: m) = true ↔
      lo ≤ c.1 ∧ c.1 < 65536 ∧ c.2 ≠ Memory.unlisted ∧ Memory.wfFrom (c.1 + 1) m = true := by
  simp [Memory.wfFrom, and_assoc]

theorem Memory.wfFrom_mono {lo lo' : Nat} {m : Memory} (h : Memory.wfFrom lo m = true) (hl : lo' ≤ lo) :
    Memory.wfFrom lo' m = true := by
  cases m with
  | nil => rfl
  | cons c m =>
    rw [Memory.wfFrom_cons] at h ⊢
    exact ⟨by omega, h.2⟩

theorem Memory.wfFrom_erase {lo : Nat} {m : Memory} (k : Nat) (h : Memory.wfFrom lo m = true) :
    Memory.wfFrom lo (Memory.erase m k) = true := by
  induction m generalizing lo with
  | nil => rfl
  | cons c m ih =>
    rw [Memory.wfFrom_cons] at h
    by_cases hk : c.1 = k
    · have := ih h.2.2.2
      simpa [Memory.erase, hk] using Memory.wfFrom_mono this (by omega)
    · have := ih h.2.2.2
      have hcons : Memory.erase (c :: m) k = c :: Memory.erase m k := by simp [Memory.erase, hk]
      rw [hcons, Memory.wfFrom_cons]
      exact ⟨h.1, h.2.1, h.2.2.1, this⟩

theorem Memory.wfFrom_insert {lo k : Nat} {m : Memory} {v : Byte} (h : Memory.wfFrom lo m = true) (hlo : lo ≤ k)
    (hk : k < 65536) (hv : v ≠ Memory.unlisted) (hn : ∀ c ∈ m, c.1 ≠ k) :
    Memory.wfFrom lo (Memory.insert m k v) = true := by
  induction m generalizing lo with
  | nil =>
    rw [Memory.insert, Memory.wfFrom_cons]
    exact ⟨hlo, hk, hv, rfl⟩
  | cons c m ih =>
    have hc := (Memory.wfFrom_cons lo c m).1 h
    by_cases hlt : k < c.1
    · rw [Memory.insert, if_pos hlt, Memory.wfFrom_cons, Memory.wfFrom_cons]
      exact ⟨hlo, hk, hv, by omega, hc.2⟩
    · have hne : c.1 ≠ k := hn c (by simp)
      rw [Memory.insert, if_neg hlt, Memory.wfFrom_cons]
      exact ⟨hc.1, hc.2.1, hc.2.2.1, ih hc.2.2.2 (by omega) (fun d hd => hn d (by simp [hd]))⟩

/-- A write keeps the canonical form. -/
theorem Memory.wf_write {m : Memory} {k : Nat} (v : Byte) (h : m.wf = true) (hk : k < 65536) :
    (m.write k v).wf = true := by
  unfold Memory.write
  split
  · exact Memory.wfFrom_erase k h
  · next hv =>
    exact Memory.wfFrom_insert (Memory.wfFrom_erase k h) (Nat.zero_le k) hk hv (fun _ hc => Memory.mem_erase_key hc)

/-- Every entry after a write is an old entry or the byte written. -/
theorem Memory.mem_write {m : Memory} {k : Nat} {v : Byte} {c : Host.Cell} (h : c ∈ m.write k v) :
    c ∈ m ∨ c = (k, v) := by
  have ins : ∀ m' : Memory, c ∈ Memory.insert m' k v → c ∈ m' ∨ c = (k, v) := by
    intro m'
    induction m' with
    | nil => intro h'; exact .inr (by simpa [Memory.insert] using h')
    | cons d m' ih =>
      intro h'
      by_cases hlt : k < d.1
      · simp only [Memory.insert, if_pos hlt, List.mem_cons] at h' ⊢
        tauto
      · simp only [Memory.insert, if_neg hlt, List.mem_cons] at h' ⊢
        rcases h' with h' | h'
        · exact .inl (.inl h')
        · rcases ih h' with h'' | h''
          · exact .inl (.inr h'')
          · exact .inr h''
  unfold Memory.write at h
  split at h
  · exact .inl (List.mem_filter.1 h).1
  · rcases ins _ h with h' | h'
    · exact .inl (List.mem_filter.1 h').1
    · exact .inr h'

end Sys2Proof.Machine
end

