-- ==== Sys2Proof/Laws/State.lean ====
section
/-! SUPPORT. One lemma per field of State per update, true by definition, so that no later proof unfolds a record
update. -/

namespace Sys2Proof.Machine

@[simp] theorem State.advance_a (s : State) (n : Word) : (s.advance n).a = s.a := rfl
@[simp] theorem State.advance_x (s : State) (n : Word) : (s.advance n).x = s.x := rfl
@[simp] theorem State.advance_y (s : State) (n : Word) : (s.advance n).y = s.y := rfl
@[simp] theorem State.advance_sp (s : State) (n : Word) : (s.advance n).sp = s.sp := rfl
@[simp] theorem State.advance_pc (s : State) (n : Word) : (s.advance n).pc = s.pc + n := rfl
@[simp] theorem State.advance_p (s : State) (n : Word) : (s.advance n).p = s.p := rfl
@[simp] theorem State.advance_mem (s : State) (n : Word) : (s.advance n).mem = s.mem := rfl
@[simp] theorem State.advance_irqLine (s : State) (n : Word) : (s.advance n).irqLine = s.irqLine := rfl
@[simp] theorem State.advance_nmiPending (s : State) (n : Word) : (s.advance n).nmiPending = s.nmiPending := rfl
@[simp] theorem State.advance_resetPending (s : State) (n : Word) : (s.advance n).resetPending = s.resetPending := rfl
@[simp] theorem State.advance_schedule (s : State) (n : Word) : (s.advance n).schedule = s.schedule := rfl
@[simp] theorem State.advance_io (s : State) (n : Word) : (s.advance n).io = s.io := rfl
@[simp] theorem State.advance_draws (s : State) (n : Word) : (s.advance n).draws = s.draws := rfl
@[simp] theorem State.advance_params (s : State) (n : Word) : (s.advance n).params = s.params := rfl

@[simp] theorem State.advance_kindAt (s : State) (n : Word) (b : Word) : (s.advance n).kindAt b = s.kindAt b := rfl

@[simp] theorem State.advance_stored (s : State) (n : Word) (b : Word) : (s.advance n).stored b = s.stored b := rfl

@[simp] theorem State.jump_a (s : State) (w : Word) : (s.jump w).a = s.a := rfl
@[simp] theorem State.jump_x (s : State) (w : Word) : (s.jump w).x = s.x := rfl
@[simp] theorem State.jump_y (s : State) (w : Word) : (s.jump w).y = s.y := rfl
@[simp] theorem State.jump_sp (s : State) (w : Word) : (s.jump w).sp = s.sp := rfl
@[simp] theorem State.jump_pc (s : State) (w : Word) : (s.jump w).pc = w := rfl
@[simp] theorem State.jump_p (s : State) (w : Word) : (s.jump w).p = s.p := rfl
@[simp] theorem State.jump_mem (s : State) (w : Word) : (s.jump w).mem = s.mem := rfl
@[simp] theorem State.jump_irqLine (s : State) (w : Word) : (s.jump w).irqLine = s.irqLine := rfl
@[simp] theorem State.jump_nmiPending (s : State) (w : Word) : (s.jump w).nmiPending = s.nmiPending := rfl
@[simp] theorem State.jump_resetPending (s : State) (w : Word) : (s.jump w).resetPending = s.resetPending := rfl
@[simp] theorem State.jump_schedule (s : State) (w : Word) : (s.jump w).schedule = s.schedule := rfl
@[simp] theorem State.jump_io (s : State) (w : Word) : (s.jump w).io = s.io := rfl
@[simp] theorem State.jump_draws (s : State) (w : Word) : (s.jump w).draws = s.draws := rfl
@[simp] theorem State.jump_params (s : State) (w : Word) : (s.jump w).params = s.params := rfl

@[simp] theorem State.jump_kindAt (s : State) (w : Word) (b : Word) : (s.jump w).kindAt b = s.kindAt b := rfl

@[simp] theorem State.jump_stored (s : State) (w : Word) (b : Word) : (s.jump w).stored b = s.stored b := rfl

@[simp] theorem State.setFlags_a (s : State) (p : Flags) : (s.setFlags p).a = s.a := rfl
@[simp] theorem State.setFlags_x (s : State) (p : Flags) : (s.setFlags p).x = s.x := rfl
@[simp] theorem State.setFlags_y (s : State) (p : Flags) : (s.setFlags p).y = s.y := rfl
@[simp] theorem State.setFlags_sp (s : State) (p : Flags) : (s.setFlags p).sp = s.sp := rfl
@[simp] theorem State.setFlags_pc (s : State) (p : Flags) : (s.setFlags p).pc = s.pc := rfl
@[simp] theorem State.setFlags_p (s : State) (p : Flags) : (s.setFlags p).p = p := rfl
@[simp] theorem State.setFlags_mem (s : State) (p : Flags) : (s.setFlags p).mem = s.mem := rfl
@[simp] theorem State.setFlags_irqLine (s : State) (p : Flags) : (s.setFlags p).irqLine = s.irqLine := rfl
@[simp] theorem State.setFlags_nmiPending (s : State) (p : Flags) : (s.setFlags p).nmiPending = s.nmiPending := rfl
@[simp] theorem State.setFlags_resetPending (s : State) (p : Flags) : (s.setFlags p).resetPending = s.resetPending := rfl
@[simp] theorem State.setFlags_schedule (s : State) (p : Flags) : (s.setFlags p).schedule = s.schedule := rfl
@[simp] theorem State.setFlags_io (s : State) (p : Flags) : (s.setFlags p).io = s.io := rfl
@[simp] theorem State.setFlags_draws (s : State) (p : Flags) : (s.setFlags p).draws = s.draws := rfl
@[simp] theorem State.setFlags_params (s : State) (p : Flags) : (s.setFlags p).params = s.params := rfl

@[simp] theorem State.setFlags_kindAt (s : State) (p : Flags) (b : Word) : (s.setFlags p).kindAt b = s.kindAt b := rfl

@[simp] theorem State.setFlags_stored (s : State) (p : Flags) (b : Word) : (s.setFlags p).stored b = s.stored b := rfl

@[simp] theorem State.loadA_a (s : State) (v : Byte) : (s.loadA v).a = v := rfl
@[simp] theorem State.loadA_x (s : State) (v : Byte) : (s.loadA v).x = s.x := rfl
@[simp] theorem State.loadA_y (s : State) (v : Byte) : (s.loadA v).y = s.y := rfl
@[simp] theorem State.loadA_sp (s : State) (v : Byte) : (s.loadA v).sp = s.sp := rfl
@[simp] theorem State.loadA_pc (s : State) (v : Byte) : (s.loadA v).pc = s.pc := rfl
@[simp] theorem State.loadA_p (s : State) (v : Byte) : (s.loadA v).p = s.p.setNZ v := rfl
@[simp] theorem State.loadA_mem (s : State) (v : Byte) : (s.loadA v).mem = s.mem := rfl
@[simp] theorem State.loadA_irqLine (s : State) (v : Byte) : (s.loadA v).irqLine = s.irqLine := rfl
@[simp] theorem State.loadA_nmiPending (s : State) (v : Byte) : (s.loadA v).nmiPending = s.nmiPending := rfl
@[simp] theorem State.loadA_resetPending (s : State) (v : Byte) : (s.loadA v).resetPending = s.resetPending := rfl
@[simp] theorem State.loadA_schedule (s : State) (v : Byte) : (s.loadA v).schedule = s.schedule := rfl
@[simp] theorem State.loadA_io (s : State) (v : Byte) : (s.loadA v).io = s.io := rfl
@[simp] theorem State.loadA_draws (s : State) (v : Byte) : (s.loadA v).draws = s.draws := rfl
@[simp] theorem State.loadA_params (s : State) (v : Byte) : (s.loadA v).params = s.params := rfl

@[simp] theorem State.loadA_kindAt (s : State) (v : Byte) (b : Word) : (s.loadA v).kindAt b = s.kindAt b := rfl

@[simp] theorem State.loadA_stored (s : State) (v : Byte) (b : Word) : (s.loadA v).stored b = s.stored b := rfl

@[simp] theorem State.loadX_a (s : State) (v : Byte) : (s.loadX v).a = s.a := rfl
@[simp] theorem State.loadX_x (s : State) (v : Byte) : (s.loadX v).x = v := rfl
@[simp] theorem State.loadX_y (s : State) (v : Byte) : (s.loadX v).y = s.y := rfl
@[simp] theorem State.loadX_sp (s : State) (v : Byte) : (s.loadX v).sp = s.sp := rfl
@[simp] theorem State.loadX_pc (s : State) (v : Byte) : (s.loadX v).pc = s.pc := rfl
@[simp] theorem State.loadX_p (s : State) (v : Byte) : (s.loadX v).p = s.p.setNZ v := rfl
@[simp] theorem State.loadX_mem (s : State) (v : Byte) : (s.loadX v).mem = s.mem := rfl
@[simp] theorem State.loadX_irqLine (s : State) (v : Byte) : (s.loadX v).irqLine = s.irqLine := rfl
@[simp] theorem State.loadX_nmiPending (s : State) (v : Byte) : (s.loadX v).nmiPending = s.nmiPending := rfl
@[simp] theorem State.loadX_resetPending (s : State) (v : Byte) : (s.loadX v).resetPending = s.resetPending := rfl
@[simp] theorem State.loadX_schedule (s : State) (v : Byte) : (s.loadX v).schedule = s.schedule := rfl
@[simp] theorem State.loadX_io (s : State) (v : Byte) : (s.loadX v).io = s.io := rfl
@[simp] theorem State.loadX_draws (s : State) (v : Byte) : (s.loadX v).draws = s.draws := rfl
@[simp] theorem State.loadX_params (s : State) (v : Byte) : (s.loadX v).params = s.params := rfl

@[simp] theorem State.loadX_kindAt (s : State) (v : Byte) (b : Word) : (s.loadX v).kindAt b = s.kindAt b := rfl

@[simp] theorem State.loadX_stored (s : State) (v : Byte) (b : Word) : (s.loadX v).stored b = s.stored b := rfl

@[simp] theorem State.loadY_a (s : State) (v : Byte) : (s.loadY v).a = s.a := rfl
@[simp] theorem State.loadY_x (s : State) (v : Byte) : (s.loadY v).x = s.x := rfl
@[simp] theorem State.loadY_y (s : State) (v : Byte) : (s.loadY v).y = v := rfl
@[simp] theorem State.loadY_sp (s : State) (v : Byte) : (s.loadY v).sp = s.sp := rfl
@[simp] theorem State.loadY_pc (s : State) (v : Byte) : (s.loadY v).pc = s.pc := rfl
@[simp] theorem State.loadY_p (s : State) (v : Byte) : (s.loadY v).p = s.p.setNZ v := rfl
@[simp] theorem State.loadY_mem (s : State) (v : Byte) : (s.loadY v).mem = s.mem := rfl
@[simp] theorem State.loadY_irqLine (s : State) (v : Byte) : (s.loadY v).irqLine = s.irqLine := rfl
@[simp] theorem State.loadY_nmiPending (s : State) (v : Byte) : (s.loadY v).nmiPending = s.nmiPending := rfl
@[simp] theorem State.loadY_resetPending (s : State) (v : Byte) : (s.loadY v).resetPending = s.resetPending := rfl
@[simp] theorem State.loadY_schedule (s : State) (v : Byte) : (s.loadY v).schedule = s.schedule := rfl
@[simp] theorem State.loadY_io (s : State) (v : Byte) : (s.loadY v).io = s.io := rfl
@[simp] theorem State.loadY_draws (s : State) (v : Byte) : (s.loadY v).draws = s.draws := rfl
@[simp] theorem State.loadY_params (s : State) (v : Byte) : (s.loadY v).params = s.params := rfl

@[simp] theorem State.loadY_kindAt (s : State) (v : Byte) (b : Word) : (s.loadY v).kindAt b = s.kindAt b := rfl

@[simp] theorem State.loadY_stored (s : State) (v : Byte) (b : Word) : (s.loadY v).stored b = s.stored b := rfl

@[simp] theorem State.afterRead_a (s : State) (addr : Word) : (s.afterRead addr).a = s.a := rfl
@[simp] theorem State.afterRead_x (s : State) (addr : Word) : (s.afterRead addr).x = s.x := rfl
@[simp] theorem State.afterRead_y (s : State) (addr : Word) : (s.afterRead addr).y = s.y := rfl
@[simp] theorem State.afterRead_sp (s : State) (addr : Word) : (s.afterRead addr).sp = s.sp := rfl
@[simp] theorem State.afterRead_pc (s : State) (addr : Word) : (s.afterRead addr).pc = s.pc := rfl
@[simp] theorem State.afterRead_p (s : State) (addr : Word) : (s.afterRead addr).p = s.p := rfl
@[simp] theorem State.afterRead_mem (s : State) (addr : Word) : (s.afterRead addr).mem = s.mem := rfl
@[simp] theorem State.afterRead_irqLine (s : State) (addr : Word) : (s.afterRead addr).irqLine = s.irqLine := rfl
@[simp] theorem State.afterRead_nmiPending (s : State) (addr : Word) : (s.afterRead addr).nmiPending = s.nmiPending := rfl
@[simp] theorem State.afterRead_resetPending (s : State) (addr : Word) : (s.afterRead addr).resetPending = s.resetPending := rfl
@[simp] theorem State.afterRead_schedule (s : State) (addr : Word) : (s.afterRead addr).schedule = s.schedule := rfl
@[simp] theorem State.afterRead_io (s : State) (addr : Word) : (s.afterRead addr).io = s.ioAfterRead addr := rfl
@[simp] theorem State.afterRead_draws (s : State) (addr : Word) : (s.afterRead addr).draws = s.drawsAfterRead addr := rfl
@[simp] theorem State.afterRead_params (s : State) (addr : Word) : (s.afterRead addr).params = s.params := rfl

@[simp] theorem State.afterRead_kindAt (s : State) (addr : Word) (b : Word) : (s.afterRead addr).kindAt b = s.kindAt b := rfl

@[simp] theorem State.afterRead_stored (s : State) (addr : Word) (b : Word) : (s.afterRead addr).stored b = s.stored b := rfl

@[simp] theorem State.store_a (s : State) (addr : Word) (v : Byte) : (s.store addr v).a = s.a := rfl
@[simp] theorem State.store_x (s : State) (addr : Word) (v : Byte) : (s.store addr v).x = s.x := rfl
@[simp] theorem State.store_y (s : State) (addr : Word) (v : Byte) : (s.store addr v).y = s.y := rfl
@[simp] theorem State.store_sp (s : State) (addr : Word) (v : Byte) : (s.store addr v).sp = s.sp := rfl
@[simp] theorem State.store_pc (s : State) (addr : Word) (v : Byte) : (s.store addr v).pc = s.pc := rfl
@[simp] theorem State.store_p (s : State) (addr : Word) (v : Byte) : (s.store addr v).p = s.p := rfl
@[simp] theorem State.store_mem (s : State) (addr : Word) (v : Byte) : (s.store addr v).mem = s.memAfterWrite addr v := rfl
@[simp] theorem State.store_irqLine (s : State) (addr : Word) (v : Byte) : (s.store addr v).irqLine = s.irqLine := rfl
@[simp] theorem State.store_nmiPending (s : State) (addr : Word) (v : Byte) : (s.store addr v).nmiPending = s.nmiPending := rfl
@[simp] theorem State.store_resetPending (s : State) (addr : Word) (v : Byte) : (s.store addr v).resetPending = s.resetPending := rfl
@[simp] theorem State.store_schedule (s : State) (addr : Word) (v : Byte) : (s.store addr v).schedule = s.schedule := rfl
@[simp] theorem State.store_io (s : State) (addr : Word) (v : Byte) : (s.store addr v).io = s.ioAfterWrite addr v := rfl
@[simp] theorem State.store_draws (s : State) (addr : Word) (v : Byte) : (s.store addr v).draws = s.draws := rfl
@[simp] theorem State.store_params (s : State) (addr : Word) (v : Byte) : (s.store addr v).params = s.params := rfl

@[simp] theorem State.store_kindAt (s : State) (addr : Word) (v : Byte) (b : Word) : (s.store addr v).kindAt b = s.kindAt b := rfl

@[simp] theorem State.push_a (s : State) (v : Byte) : (s.push v).a = s.a := rfl
@[simp] theorem State.push_x (s : State) (v : Byte) : (s.push v).x = s.x := rfl
@[simp] theorem State.push_y (s : State) (v : Byte) : (s.push v).y = s.y := rfl
@[simp] theorem State.push_sp (s : State) (v : Byte) : (s.push v).sp = s.sp - 1 := rfl
@[simp] theorem State.push_pc (s : State) (v : Byte) : (s.push v).pc = s.pc := rfl
@[simp] theorem State.push_p (s : State) (v : Byte) : (s.push v).p = s.p := rfl
@[simp] theorem State.push_mem (s : State) (v : Byte) : (s.push v).mem = s.memAfterWrite (stackAddr s.sp) v := rfl
@[simp] theorem State.push_irqLine (s : State) (v : Byte) : (s.push v).irqLine = s.irqLine := rfl
@[simp] theorem State.push_nmiPending (s : State) (v : Byte) : (s.push v).nmiPending = s.nmiPending := rfl
@[simp] theorem State.push_resetPending (s : State) (v : Byte) : (s.push v).resetPending = s.resetPending := rfl
@[simp] theorem State.push_schedule (s : State) (v : Byte) : (s.push v).schedule = s.schedule := rfl
@[simp] theorem State.push_io (s : State) (v : Byte) : (s.push v).io = s.ioAfterWrite (stackAddr s.sp) v := rfl
@[simp] theorem State.push_draws (s : State) (v : Byte) : (s.push v).draws = s.draws := rfl
@[simp] theorem State.push_params (s : State) (v : Byte) : (s.push v).params = s.params := rfl

@[simp] theorem State.push_kindAt (s : State) (v : Byte) (b : Word) : (s.push v).kindAt b = s.kindAt b := rfl

@[simp] theorem State.load_value (s : State) (addr : Word) : (s.load addr).value = s.peek addr := rfl
@[simp] theorem State.load_after (s : State) (addr : Word) : (s.load addr).after = s.afterRead addr := rfl

@[simp] theorem State.readPair_after_a (s : State) (low high : Word) : (s.readPair low high).after.a = s.a := rfl
@[simp] theorem State.readPair_after_x (s : State) (low high : Word) : (s.readPair low high).after.x = s.x := rfl
@[simp] theorem State.readPair_after_y (s : State) (low high : Word) : (s.readPair low high).after.y = s.y := rfl
@[simp] theorem State.readPair_after_sp (s : State) (low high : Word) : (s.readPair low high).after.sp = s.sp := rfl
@[simp] theorem State.readPair_after_pc (s : State) (low high : Word) : (s.readPair low high).after.pc = s.pc := rfl
@[simp] theorem State.readPair_after_p (s : State) (low high : Word) : (s.readPair low high).after.p = s.p := rfl
@[simp] theorem State.readPair_after_mem (s : State) (low high : Word) : (s.readPair low high).after.mem = s.mem := rfl
@[simp] theorem State.readPair_after_irqLine (s : State) (low high : Word) : (s.readPair low high).after.irqLine = s.irqLine := rfl
@[simp] theorem State.readPair_after_nmiPending (s : State) (low high : Word) : (s.readPair low high).after.nmiPending = s.nmiPending := rfl
@[simp] theorem State.readPair_after_resetPending (s : State) (low high : Word) : (s.readPair low high).after.resetPending = s.resetPending := rfl
@[simp] theorem State.readPair_after_schedule (s : State) (low high : Word) : (s.readPair low high).after.schedule = s.schedule := rfl
@[simp] theorem State.readPair_after_params (s : State) (low high : Word) : (s.readPair low high).after.params = s.params := rfl

@[simp] theorem State.pull_after_a (s : State) : s.pull.after.a = s.a := rfl
@[simp] theorem State.pull_after_x (s : State) : s.pull.after.x = s.x := rfl
@[simp] theorem State.pull_after_y (s : State) : s.pull.after.y = s.y := rfl
@[simp] theorem State.pull_after_sp (s : State) : s.pull.after.sp = s.sp + 1 := rfl
@[simp] theorem State.pull_after_pc (s : State) : s.pull.after.pc = s.pc := rfl
@[simp] theorem State.pull_after_p (s : State) : s.pull.after.p = s.p := rfl
@[simp] theorem State.pull_after_mem (s : State) : s.pull.after.mem = s.mem := rfl
@[simp] theorem State.pull_after_irqLine (s : State) : s.pull.after.irqLine = s.irqLine := rfl
@[simp] theorem State.pull_after_nmiPending (s : State) : s.pull.after.nmiPending = s.nmiPending := rfl
@[simp] theorem State.pull_after_resetPending (s : State) : s.pull.after.resetPending = s.resetPending := rfl
@[simp] theorem State.pull_after_schedule (s : State) : s.pull.after.schedule = s.schedule := rfl
@[simp] theorem State.pull_after_params (s : State) : s.pull.after.params = s.params := rfl

@[simp] theorem Flags.setNZ_n (p : Flags) (v : Byte) : (p.setNZ v).n = v.msb := rfl
@[simp] theorem Flags.setNZ_z (p : Flags) (v : Byte) : (p.setNZ v).z = decide (v = 0) := rfl
@[simp] theorem Flags.setNZ_v (p : Flags) (v : Byte) : (p.setNZ v).v = p.v := rfl
@[simp] theorem Flags.setNZ_d (p : Flags) (v : Byte) : (p.setNZ v).d = p.d := rfl
@[simp] theorem Flags.setNZ_i (p : Flags) (v : Byte) : (p.setNZ v).i = p.i := rfl
@[simp] theorem Flags.setNZ_c (p : Flags) (v : Byte) : (p.setNZ v).c = p.c := rfl

end Sys2Proof.Machine
end

