-- ==== Sys2Proof/Laws/Ops.lean ====
section
/-! SUPPORT. One lemma per shared operation that says once what it does: reads and writes by the kind of the address,
the stack, the entries and the return, the sampling of the inputs, and the invariant under a write. -/

namespace Sys2Proof.Machine

/-! ### Which addresses are RAM and ROM in every configuration (spec 20_memory R60) -/

theorem blockAt_of_lt {addr : Word} (h : addr.toNat < 0x400) : blockAt addr = .workingStorage := by
  simp [blockAt, h]

theorem blockAt_of_le {addr : Word} (h : 0xE000 ≤ addr.toNat) : blockAt addr = .kernalRom := by
  simp only [blockAt]
  repeat rw [if_neg (by omega)]

theorem State.kindAt_low (s : State) {addr : Word} (h : addr.toNat < 0x400) : s.kindAt addr = .ram := by
  simp [State.kindAt, blockAt_of_lt h, kindOf]

theorem State.kindAt_high (s : State) {addr : Word} (h : 0xE000 ≤ addr.toNat) : s.kindAt addr = .rom := by
  simp [State.kindAt, blockAt_of_le h, kindOf]

theorem stackAddr_toNat (sp : Byte) : (stackAddr sp).toNat = 256 + sp.toNat := by
  have := sp.isLt
  simp [stackAddr, stackBase, zext16]
  omega

/-- Every stack address is RAM (10_state R26). -/
@[simp] theorem State.kindAt_stackAddr (s : State) (sp : Byte) : s.kindAt (stackAddr sp) = .ram :=
  s.kindAt_low (by have := sp.isLt; rw [stackAddr_toNat]; omega)

/-- Every zero-page address is RAM. -/
@[simp] theorem State.kindAt_zext16 (s : State) (z : Byte) : s.kindAt (zext16 z) = .ram :=
  s.kindAt_low (by have := z.isLt; simp [zext16]; omega)

/-! ### Reads -/

theorem State.peek_plain (s : State) {addr : Word} (h : s.kindAt addr = .ram ∨ s.kindAt addr = .rom) :
    s.peek addr = s.stored addr := by
  rcases h with h | h <;> simp [State.peek, h]

theorem State.afterRead_plain (s : State) {addr : Word} (h : s.kindAt addr = .ram ∨ s.kindAt addr = .rom) :
    s.afterRead addr = s := by
  rcases h with h | h <;> simp [State.afterRead, State.drawsAfterRead, State.ioAfterRead, h]

/-- A read of RAM or ROM returns the stored byte and changes nothing (20_memory R58, R62, R65). -/
theorem State.load_plain (s : State) {addr : Word} (h : s.kindAt addr = .ram ∨ s.kindAt addr = .rom) :
    s.load addr = { value := s.stored addr, after := s } := by
  simp [State.load, s.peek_plain h, s.afterRead_plain h]

/-- What a read can change (20_memory R58, R64, R66, R67). -/
theorem State.afterRead_cases (s : State) (addr : Word) :
    s.afterRead addr = s ∨ s.afterRead addr = { s with draws := s.draws + 1 } ∨
      s.afterRead addr = { s with io := .read addr (s.peek addr) :: s.io } := by
  unfold State.afterRead State.drawsAfterRead State.ioAfterRead
  cases hk : s.kindAt addr <;> simp only <;> try tauto
  cases s.params.colorRamWidth <;> simp

/-- A pointer in RAM or ROM (00_scope R15). -/
theorem State.readPair_plain (s : State) {low high : Word} (hl : s.kindAt low = .ram ∨ s.kindAt low = .rom)
    (hh : s.kindAt high = .ram ∨ s.kindAt high = .rom) :
    s.readPair low high = { addr := mkWord (s.stored high) (s.stored low), after := s } := by
  simp [State.readPair, s.peek_plain hl, s.peek_plain hh, s.afterRead_plain hl, s.afterRead_plain hh]

/-- `Read16zp` (00_scope R15): page zero is RAM, so the pointer is two stored bytes. -/
theorem State.read16zp_eq (s : State) (z : Byte) :
    s.read16zp z = { addr := mkWord (s.stored (zext16 (z + 1))) (s.stored (zext16 z)), after := s } :=
  s.readPair_plain (.inl (s.kindAt_zext16 z)) (.inl (s.kindAt_zext16 (z + 1)))

/-- A vector (20_memory R68): its two bytes are ROM bytes. -/
theorem State.read16_vector (s : State) {vec : Word} (h : 0xE000 ≤ vec.toNat) (h' : vec.toNat < 0xFFFF) :
    s.read16 vec = { addr := mkWord (s.stored (vec + 1)) (s.stored vec), after := s } := by
  refine s.readPair_plain (.inr (s.kindAt_high h)) (.inr (s.kindAt_high ?_))
  have : (vec + 1).toNat = vec.toNat + 1 := by simp [BitVec.toNat_add]; omega
  omega

/-! ### Writes -/

theorem State.store_ram (s : State) {addr : Word} (v : Byte) (h : s.kindAt addr = .ram) :
    s.store addr v = { s with mem := s.mem.write addr.toNat v } := by
  simp [State.store, State.memAfterWrite, State.ioAfterWrite, h]

theorem State.store_rom (s : State) {addr : Word} (v : Byte) (h : s.kindAt addr = .rom) : s.store addr v = s := by
  simp [State.store, State.memAfterWrite, State.ioAfterWrite, h]

theorem State.store_empty (s : State) {addr : Word} (v : Byte) (h : s.kindAt addr = .empty) : s.store addr v = s := by
  simp [State.store, State.memAfterWrite, State.ioAfterWrite, h]

theorem State.store_device (s : State) {addr : Word} (v : Byte) (h : s.kindAt addr = .device) :
    s.store addr v = { s with io := .write addr v :: s.io } := by
  simp [State.store, State.memAfterWrite, State.ioAfterWrite, h]

theorem State.store_colour (s : State) {addr : Word} (v : Byte) (h : s.kindAt addr = .colour) :
    s.store addr v =
      { s with mem := s.mem.write addr.toNat (if s.params.colorRamWidth = .four then v &&& 0x0F else v) } := by
  cases hw : s.params.colorRamWidth <;> simp [State.store, State.memAfterWrite, State.ioAfterWrite, h, hw]

theorem Word.toNat_ne {a b : Word} (h : b ≠ a) : b.toNat ≠ a.toNat := fun e => h (BitVec.eq_of_toNat_eq e)

/-- A write leaves every other byte alone (20_memory R54). -/
theorem State.store_stored_other (s : State) {addr b : Word} (v : Byte) (h : b ≠ addr) :
    (s.store addr v).stored b = s.stored b := by
  have hn := Word.toNat_ne h
  unfold State.stored State.store State.memAfterWrite
  cases s.kindAt addr <;> simp only
  · exact Memory.read_write_other _ _ hn
  · cases s.params.colorRamWidth <;> exact Memory.read_write_other _ _ hn

/-- A write to RAM is read back (20_memory R62). -/
theorem State.store_stored_ram (s : State) {addr : Word} (v : Byte) (h : s.kindAt addr = .ram) :
    (s.store addr v).stored addr = v := by
  rw [s.store_ram v h]
  exact Memory.read_write_same _ _ _

/-! ### The stack -/

/-- `Push` (10_state R26). -/
theorem State.push_eq (s : State) (v : Byte) :
    s.push v = { s with mem := s.mem.write (stackAddr s.sp).toNat v, sp := s.sp - 1 } := by
  simp [State.push, s.store_ram v (s.kindAt_stackAddr s.sp)]

/-- `Pull` (10_state R26). -/
theorem State.pull_eq (s : State) :
    s.pull = { value := s.stored (stackAddr (s.sp + 1)), after := { s with sp := s.sp + 1 } } :=
  State.load_plain { s with sp := s.sp + 1 } (.inl (State.kindAt_stackAddr _ _))

/-- Two pushes, high byte first (10_state R26). -/
theorem State.pushWord_eq (s : State) (w : Word) :
    s.pushWord w =
      { s with
        mem := (s.mem.write (stackAddr s.sp).toNat (hiByte w)).write (stackAddr (s.sp - 1)).toNat (loByte w)
        sp := s.sp - 1 - 1 } := by
  rw [State.pushWord, State.push_eq, State.push_eq]

/-- Two pulls, low byte first (10_state R26). -/
theorem State.pullWord_eq (s : State) :
    s.pullWord =
      { addr := mkWord (s.stored (stackAddr (s.sp + 1 + 1))) (s.stored (stackAddr (s.sp + 1)))
        after := { s with sp := s.sp + 1 + 1 } } := by
  rw [State.pullWord, State.pull_eq]
  simp only [State.pull_eq]
  rfl

/-! ### Entry and return -/

/-- The bytes that an interrupt entry stores (60_exceptions R246). -/
theorem State.interruptEntry_eq (s : State) (ret : Word) (b : Bool) {vec : Word} (h : 0xE000 ≤ vec.toNat)
    (h' : vec.toNat < 0xFFFF) :
    s.interruptEntry ret b vec =
      { (s.pushWord ret).push (s.p.pack b) with
        p := { s.p with i := true }
        pc := mkWord (((s.pushWord ret).push (s.p.pack b)).stored (vec + 1))
          (((s.pushWord ret).push (s.p.pack b)).stored vec) } := by
  rw [State.interruptEntry]
  simp only [State.read16_vector _ h h']
  rfl

/-- The reset entry (60_exceptions R250). -/
theorem State.resetEntry_eq (s : State) :
    s.resetEntry =
      { s with
        resetPending := false
        nmiPending := false
        sp := s.sp - 3
        p := { s.p with i := true }
        pc := mkWord (s.stored (resetVector + 1)) (s.stored resetVector) } := by
  rw [State.resetEntry]
  simp only [State.read16_vector _ (vec := resetVector) (by decide) (by decide)]
  rfl

/-- The return from an interrupt (60_exceptions R251). -/
theorem State.returnFromInterrupt_eq (s : State) :
    s.returnFromInterrupt =
      { s with
        p := Flags.unpack (s.stored (stackAddr (s.sp + 1)))
        sp := s.sp + 1 + 1 + 1
        pc := mkWord (s.stored (stackAddr (s.sp + 1 + 1 + 1))) (s.stored (stackAddr (s.sp + 1 + 1))) } := by
  rw [State.returnFromInterrupt]
  simp only [State.pull_eq, State.pullWord_eq]
  rfl

/-- The power-on state is the reset entry applied to the state at power-on, S being the draw after its three
decrements (60_exceptions R250). -/
theorem State.resetEntry_powerOn (o : PowerOn) :
    { State.powerOn o with sp := o.sp + 3 }.resetEntry = State.powerOn o := by
  rw [State.resetEntry_eq]
  simp only [State.powerOn, State.mk.injEq, true_and, and_true]
  exact ⟨by simp, rfl⟩

/-- What sampling the inputs changes (60_exceptions R242). -/
theorem State.sampleInputs_cases (s : State) :
    (s.schedule = [] ∧ s.sampleInputs = s) ∨
      ∃ b rest, s.schedule = b :: rest ∧
        s.sampleInputs =
          { s with
            irqLine := b.irqLine
            nmiPending := s.nmiPending || b.nmiEdge
            resetPending := s.resetPending || b.resetRequest
            schedule := rest } := by
  unfold State.sampleInputs
  split
  · next h => exact .inl ⟨h, rfl⟩
  · next b rest h => exact .inr ⟨b, rest, h, rfl⟩

/-! ### The invariant under a write -/

theorem State.reset_memory_wf : State.reset.mem.wf = true := rfl

/-- A write keeps the canonical form (20_memory R62, R67). -/
theorem State.store_wf (s : State) (addr : Word) (v : Byte) (h : s.mem.wf = true) :
    (s.store addr v).mem.wf = true := by
  have hk : addr.toNat < 65536 := addr.isLt
  simp only [State.store_mem, State.memAfterWrite]
  cases s.kindAt addr <;> simp only
  · exact Memory.wf_write _ h hk
  · exact h
  · cases s.params.colorRamWidth <;> exact Memory.wf_write _ h hk
  · exact h
  · exact h

/-- A loader's byte keeps the canonical form. -/
theorem State.place_wf (s : State) (addr : Word) (v : Byte) (h : s.mem.wf = true) : (s.place addr v).mem.wf = true :=
  Memory.wf_write _ h addr.isLt

/-- A write lists only bytes that their addresses hold. -/
theorem State.store_held (s : State) (addr : Word) (v : Byte) (h : s.mem.all (cellHeld s.params) = true) :
    (s.store addr v).mem.all (cellHeld s.params) = true := by
  have key : ∀ w : Byte, cellHeld s.params (addr.toNat, w) = true →
      (s.mem.write addr.toNat w).all (cellHeld s.params) = true := by
    intro w hw
    rw [List.all_eq_true] at h ⊢
    intro c hc
    rcases Memory.mem_write hc with h' | h'
    · exact h c h'
    · rw [h']; exact hw
  have hb : kindOf s.params (blockAt addr) = s.kindAt addr := rfl
  simp only [State.store_mem, State.memAfterWrite]
  cases hk : s.kindAt addr <;> simp only
  · exact key v (by simp [cellHeld, hb, hk])
  · exact h
  · cases hw : s.params.colorRamWidth <;> simp only
    · refine key _ ?_
      have : (v &&& 0x0F).toNat < 16 := by
        have := Nat.and_lt_two_pow v.toNat (show 15 < 2 ^ 4 by decide)
        simpa [BitVec.toNat_and] using this
      simpa [cellHeld, hb, hk, hw] using this
    · exact key v (by simp [cellHeld, hb, hk, hw])
  · exact h
  · exact h

/-- The invariant under a write. -/
theorem State.store_inv (s : State) (addr : Word) (v : Byte) (h : s.Inv) : (s.store addr v).Inv :=
  ⟨s.store_wf addr v h.1, s.store_held addr v h.2⟩

end Sys2Proof.Machine
end

