-- ==== Sys2Proof/Laws/Operands.lean ====
section
/-! SUPPORT. One lemma per addressing mode: it answers an address and changes no state (a pointer lies in page zero,
which is RAM), and it does not depend on PC. -/

namespace Sys2Proof.Machine

@[simp] theorem State.immediate_after (s : State) (b1 : Byte) : (s.immediate b1).after = s := rfl
@[simp] theorem State.immediate_value (s : State) (b1 : Byte) : (s.immediate b1).value = b1 := rfl
@[simp] theorem State.zeroPage_after (s : State) (b1 : Byte) : (s.zeroPage b1).after = s := rfl
@[simp] theorem State.zeroPageX_after (s : State) (b1 : Byte) : (s.zeroPageX b1).after = s := rfl
@[simp] theorem State.zeroPageY_after (s : State) (b1 : Byte) : (s.zeroPageY b1).after = s := rfl
@[simp] theorem State.absolute_after (s : State) (oper : Word) : (s.absolute oper).after = s := rfl
@[simp] theorem State.absoluteX_after (s : State) (oper : Word) : (s.absoluteX oper).after = s := rfl
@[simp] theorem State.absoluteY_after (s : State) (oper : Word) : (s.absoluteY oper).after = s := rfl

/-- (Indirect,X) reads its pointer in page zero (30_encoding R109). -/
theorem State.indirectX_eq (s : State) (b1 : Byte) :
    s.indirectX b1 =
      { addr := mkWord (s.stored (zext16 (b1 + s.x + 1))) (s.stored (zext16 (b1 + s.x))), after := s } :=
  s.read16zp_eq (b1 + s.x)

/-- (Indirect),Y reads its pointer in page zero (30_encoding R110). -/
theorem State.indirectY_eq (s : State) (b1 : Byte) :
    s.indirectY b1 =
      { addr := mkWord (s.stored (zext16 (b1 + 1))) (s.stored (zext16 b1)) + zext16 s.y, after := s } := by
  rw [State.indirectY, State.read16zp_eq]

@[simp] theorem State.indirectX_after (s : State) (b1 : Byte) : (s.indirectX b1).after = s := by
  rw [State.indirectX_eq]

@[simp] theorem State.indirectY_after (s : State) (b1 : Byte) : (s.indirectY b1).after = s := by
  rw [State.indirectY_eq]

theorem State.zeroPage_advance (s : State) (n : Word) (b1 : Byte) :
    (s.advance n).zeroPage b1 = { addr := (s.zeroPage b1).addr, after := s.advance n } := rfl

theorem State.zeroPageX_advance (s : State) (n : Word) (b1 : Byte) :
    (s.advance n).zeroPageX b1 = { addr := (s.zeroPageX b1).addr, after := s.advance n } := rfl

theorem State.zeroPageY_advance (s : State) (n : Word) (b1 : Byte) :
    (s.advance n).zeroPageY b1 = { addr := (s.zeroPageY b1).addr, after := s.advance n } := rfl

theorem State.absolute_advance (s : State) (n oper : Word) :
    (s.advance n).absolute oper = { addr := (s.absolute oper).addr, after := s.advance n } := rfl

theorem State.absoluteX_advance (s : State) (n oper : Word) :
    (s.advance n).absoluteX oper = { addr := (s.absoluteX oper).addr, after := s.advance n } := rfl

theorem State.absoluteY_advance (s : State) (n oper : Word) :
    (s.advance n).absoluteY oper = { addr := (s.absoluteY oper).addr, after := s.advance n } := rfl

theorem State.indirectX_advance (s : State) (n : Word) (b1 : Byte) :
    (s.advance n).indirectX b1 = { addr := (s.indirectX b1).addr, after := s.advance n } := by
  rw [State.indirectX_eq, State.indirectX_eq]
  rfl

theorem State.indirectY_advance (s : State) (n : Word) (b1 : Byte) :
    (s.advance n).indirectY b1 = { addr := (s.indirectY b1).addr, after := s.advance n } := by
  rw [State.indirectY_eq, State.indirectY_eq]
  rfl

/-- A data read (20_memory R54). -/
theorem Located.load_eq (l : Located) : l.load = { value := l.after.peek l.addr, after := l.after.afterRead l.addr } := rfl

/-- A read does not depend on PC. -/
theorem State.load_advance (s : State) (n addr : Word) :
    (s.advance n).load addr = { value := s.peek addr, after := (s.afterRead addr).advance n } := rfl

/-- A read-modify-write (20_memory R54): the flags are the result's, and the bytes are those of one write of it. -/
theorem Located.modify_eq (l : Located) (f : Byte → Flags → Alu) :
    l.modify f =
      (l.load.after.store l.addr (f l.load.value l.after.p).value).setFlags (f l.load.value l.after.p).flags := rfl

end Sys2Proof.Machine
end

