-- ==== Sys2Proof/Laws/PerInstr.lean ====
section
/-! SUPPORT. Laws stated per instruction, one lemma per constructor of Instr. -/

namespace Sys2Proof.Laws

/-- An instruction's encoding has the byte count of its addressing mode (spec 30_encoding R91) and begins with its
row's opcode byte, which is decoded to the same byte count. -/
def EncodedLength.Statement (i : Instr) : Prop :=
  (encode i).length = i.bytes ∧ (encode i).head? = some i.row.opcode ∧ opcodeBytes i.row.opcode = some i.bytes

theorem EncodedLength.adcImm (b1 : Byte) : EncodedLength.Statement (.adcImm b1) :=
  ⟨rfl, rfl, Eq.trans (b := some 2) rfl rfl⟩
theorem EncodedLength.adcZp (b1 : Byte) : EncodedLength.Statement (.adcZp b1) :=
  ⟨rfl, rfl, Eq.trans (b := some 2) rfl rfl⟩
theorem EncodedLength.adcZpx (b1 : Byte) : EncodedLength.Statement (.adcZpx b1) :=
  ⟨rfl, rfl, Eq.trans (b := some 2) rfl rfl⟩
theorem EncodedLength.adcAbs (oper : Word) : EncodedLength.Statement (.adcAbs oper) :=
  ⟨rfl, rfl, Eq.trans (b := some 3) rfl rfl⟩
theorem EncodedLength.adcAbx (oper : Word) : EncodedLength.Statement (.adcAbx oper) :=
  ⟨rfl, rfl, Eq.trans (b := some 3) rfl rfl⟩
theorem EncodedLength.adcAby (oper : Word) : EncodedLength.Statement (.adcAby oper) :=
  ⟨rfl, rfl, Eq.trans (b := some 3) rfl rfl⟩
theorem EncodedLength.adcIzx (b1 : Byte) : EncodedLength.Statement (.adcIzx b1) :=
  ⟨rfl, rfl, Eq.trans (b := some 2) rfl rfl⟩
theorem EncodedLength.adcIzy (b1 : Byte) : EncodedLength.Statement (.adcIzy b1) :=
  ⟨rfl, rfl, Eq.trans (b := some 2) rfl rfl⟩
theorem EncodedLength.andImm (b1 : Byte) : EncodedLength.Statement (.andImm b1) :=
  ⟨rfl, rfl, Eq.trans (b := some 2) rfl rfl⟩
theorem EncodedLength.andZp (b1 : Byte) : EncodedLength.Statement (.andZp b1) :=
  ⟨rfl, rfl, Eq.trans (b := some 2) rfl rfl⟩
theorem EncodedLength.andZpx (b1 : Byte) : EncodedLength.Statement (.andZpx b1) :=
  ⟨rfl, rfl, Eq.trans (b := some 2) rfl rfl⟩
theorem EncodedLength.andAbs (oper : Word) : EncodedLength.Statement (.andAbs oper) :=
  ⟨rfl, rfl, Eq.trans (b := some 3) rfl rfl⟩
theorem EncodedLength.andAbx (oper : Word) : EncodedLength.Statement (.andAbx oper) :=
  ⟨rfl, rfl, Eq.trans (b := some 3) rfl rfl⟩
theorem EncodedLength.andAby (oper : Word) : EncodedLength.Statement (.andAby oper) :=
  ⟨rfl, rfl, Eq.trans (b := some 3) rfl rfl⟩
theorem EncodedLength.andIzx (b1 : Byte) : EncodedLength.Statement (.andIzx b1) :=
  ⟨rfl, rfl, Eq.trans (b := some 2) rfl rfl⟩
theorem EncodedLength.andIzy (b1 : Byte) : EncodedLength.Statement (.andIzy b1) :=
  ⟨rfl, rfl, Eq.trans (b := some 2) rfl rfl⟩
theorem EncodedLength.aslAcc : EncodedLength.Statement .aslAcc :=
  ⟨rfl, rfl, Eq.trans (b := some 1) rfl rfl⟩
theorem EncodedLength.aslZp (b1 : Byte) : EncodedLength.Statement (.aslZp b1) :=
  ⟨rfl, rfl, Eq.trans (b := some 2) rfl rfl⟩
theorem EncodedLength.aslZpx (b1 : Byte) : EncodedLength.Statement (.aslZpx b1) :=
  ⟨rfl, rfl, Eq.trans (b := some 2) rfl rfl⟩
theorem EncodedLength.aslAbs (oper : Word) : EncodedLength.Statement (.aslAbs oper) :=
  ⟨rfl, rfl, Eq.trans (b := some 3) rfl rfl⟩
theorem EncodedLength.aslAbx (oper : Word) : EncodedLength.Statement (.aslAbx oper) :=
  ⟨rfl, rfl, Eq.trans (b := some 3) rfl rfl⟩
theorem EncodedLength.bcc (b1 : Byte) : EncodedLength.Statement (.bcc b1) :=
  ⟨rfl, rfl, Eq.trans (b := some 2) rfl rfl⟩
theorem EncodedLength.bcs (b1 : Byte) : EncodedLength.Statement (.bcs b1) :=
  ⟨rfl, rfl, Eq.trans (b := some 2) rfl rfl⟩
theorem EncodedLength.beq (b1 : Byte) : EncodedLength.Statement (.beq b1) :=
  ⟨rfl, rfl, Eq.trans (b := some 2) rfl rfl⟩
theorem EncodedLength.bitZp (b1 : Byte) : EncodedLength.Statement (.bitZp b1) :=
  ⟨rfl, rfl, Eq.trans (b := some 2) rfl rfl⟩
theorem EncodedLength.bitAbs (oper : Word) : EncodedLength.Statement (.bitAbs oper) :=
  ⟨rfl, rfl, Eq.trans (b := some 3) rfl rfl⟩
theorem EncodedLength.bmi (b1 : Byte) : EncodedLength.Statement (.bmi b1) :=
  ⟨rfl, rfl, Eq.trans (b := some 2) rfl rfl⟩
theorem EncodedLength.bne (b1 : Byte) : EncodedLength.Statement (.bne b1) :=
  ⟨rfl, rfl, Eq.trans (b := some 2) rfl rfl⟩
theorem EncodedLength.bpl (b1 : Byte) : EncodedLength.Statement (.bpl b1) :=
  ⟨rfl, rfl, Eq.trans (b := some 2) rfl rfl⟩
theorem EncodedLength.brk : EncodedLength.Statement .brk :=
  ⟨rfl, rfl, Eq.trans (b := some 1) rfl rfl⟩
theorem EncodedLength.bvc (b1 : Byte) : EncodedLength.Statement (.bvc b1) :=
  ⟨rfl, rfl, Eq.trans (b := some 2) rfl rfl⟩
theorem EncodedLength.bvs (b1 : Byte) : EncodedLength.Statement (.bvs b1) :=
  ⟨rfl, rfl, Eq.trans (b := some 2) rfl rfl⟩
theorem EncodedLength.clc : EncodedLength.Statement .clc :=
  ⟨rfl, rfl, Eq.trans (b := some 1) rfl rfl⟩
theorem EncodedLength.cld : EncodedLength.Statement .cld :=
  ⟨rfl, rfl, Eq.trans (b := some 1) rfl rfl⟩
theorem EncodedLength.cli : EncodedLength.Statement .cli :=
  ⟨rfl, rfl, Eq.trans (b := some 1) rfl rfl⟩
theorem EncodedLength.clv : EncodedLength.Statement .clv :=
  ⟨rfl, rfl, Eq.trans (b := some 1) rfl rfl⟩
theorem EncodedLength.cmpImm (b1 : Byte) : EncodedLength.Statement (.cmpImm b1) :=
  ⟨rfl, rfl, Eq.trans (b := some 2) rfl rfl⟩
theorem EncodedLength.cmpZp (b1 : Byte) : EncodedLength.Statement (.cmpZp b1) :=
  ⟨rfl, rfl, Eq.trans (b := some 2) rfl rfl⟩
theorem EncodedLength.cmpZpx (b1 : Byte) : EncodedLength.Statement (.cmpZpx b1) :=
  ⟨rfl, rfl, Eq.trans (b := some 2) rfl rfl⟩
theorem EncodedLength.cmpAbs (oper : Word) : EncodedLength.Statement (.cmpAbs oper) :=
  ⟨rfl, rfl, Eq.trans (b := some 3) rfl rfl⟩
theorem EncodedLength.cmpAbx (oper : Word) : EncodedLength.Statement (.cmpAbx oper) :=
  ⟨rfl, rfl, Eq.trans (b := some 3) rfl rfl⟩
theorem EncodedLength.cmpAby (oper : Word) : EncodedLength.Statement (.cmpAby oper) :=
  ⟨rfl, rfl, Eq.trans (b := some 3) rfl rfl⟩
theorem EncodedLength.cmpIzx (b1 : Byte) : EncodedLength.Statement (.cmpIzx b1) :=
  ⟨rfl, rfl, Eq.trans (b := some 2) rfl rfl⟩
theorem EncodedLength.cmpIzy (b1 : Byte) : EncodedLength.Statement (.cmpIzy b1) :=
  ⟨rfl, rfl, Eq.trans (b := some 2) rfl rfl⟩
theorem EncodedLength.cpxImm (b1 : Byte) : EncodedLength.Statement (.cpxImm b1) :=
  ⟨rfl, rfl, Eq.trans (b := some 2) rfl rfl⟩
theorem EncodedLength.cpxZp (b1 : Byte) : EncodedLength.Statement (.cpxZp b1) :=
  ⟨rfl, rfl, Eq.trans (b := some 2) rfl rfl⟩
theorem EncodedLength.cpxAbs (oper : Word) : EncodedLength.Statement (.cpxAbs oper) :=
  ⟨rfl, rfl, Eq.trans (b := some 3) rfl rfl⟩
theorem EncodedLength.cpyImm (b1 : Byte) : EncodedLength.Statement (.cpyImm b1) :=
  ⟨rfl, rfl, Eq.trans (b := some 2) rfl rfl⟩
theorem EncodedLength.cpyZp (b1 : Byte) : EncodedLength.Statement (.cpyZp b1) :=
  ⟨rfl, rfl, Eq.trans (b := some 2) rfl rfl⟩
theorem EncodedLength.cpyAbs (oper : Word) : EncodedLength.Statement (.cpyAbs oper) :=
  ⟨rfl, rfl, Eq.trans (b := some 3) rfl rfl⟩
theorem EncodedLength.decZp (b1 : Byte) : EncodedLength.Statement (.decZp b1) :=
  ⟨rfl, rfl, Eq.trans (b := some 2) rfl rfl⟩
theorem EncodedLength.decZpx (b1 : Byte) : EncodedLength.Statement (.decZpx b1) :=
  ⟨rfl, rfl, Eq.trans (b := some 2) rfl rfl⟩
theorem EncodedLength.decAbs (oper : Word) : EncodedLength.Statement (.decAbs oper) :=
  ⟨rfl, rfl, Eq.trans (b := some 3) rfl rfl⟩
theorem EncodedLength.decAbx (oper : Word) : EncodedLength.Statement (.decAbx oper) :=
  ⟨rfl, rfl, Eq.trans (b := some 3) rfl rfl⟩
theorem EncodedLength.dex : EncodedLength.Statement .dex :=
  ⟨rfl, rfl, Eq.trans (b := some 1) rfl rfl⟩
theorem EncodedLength.dey : EncodedLength.Statement .dey :=
  ⟨rfl, rfl, Eq.trans (b := some 1) rfl rfl⟩
theorem EncodedLength.eorImm (b1 : Byte) : EncodedLength.Statement (.eorImm b1) :=
  ⟨rfl, rfl, Eq.trans (b := some 2) rfl rfl⟩
theorem EncodedLength.eorZp (b1 : Byte) : EncodedLength.Statement (.eorZp b1) :=
  ⟨rfl, rfl, Eq.trans (b := some 2) rfl rfl⟩
theorem EncodedLength.eorZpx (b1 : Byte) : EncodedLength.Statement (.eorZpx b1) :=
  ⟨rfl, rfl, Eq.trans (b := some 2) rfl rfl⟩
theorem EncodedLength.eorAbs (oper : Word) : EncodedLength.Statement (.eorAbs oper) :=
  ⟨rfl, rfl, Eq.trans (b := some 3) rfl rfl⟩
theorem EncodedLength.eorAbx (oper : Word) : EncodedLength.Statement (.eorAbx oper) :=
  ⟨rfl, rfl, Eq.trans (b := some 3) rfl rfl⟩
theorem EncodedLength.eorAby (oper : Word) : EncodedLength.Statement (.eorAby oper) :=
  ⟨rfl, rfl, Eq.trans (b := some 3) rfl rfl⟩
theorem EncodedLength.eorIzx (b1 : Byte) : EncodedLength.Statement (.eorIzx b1) :=
  ⟨rfl, rfl, Eq.trans (b := some 2) rfl rfl⟩
theorem EncodedLength.eorIzy (b1 : Byte) : EncodedLength.Statement (.eorIzy b1) :=
  ⟨rfl, rfl, Eq.trans (b := some 2) rfl rfl⟩
theorem EncodedLength.incZp (b1 : Byte) : EncodedLength.Statement (.incZp b1) :=
  ⟨rfl, rfl, Eq.trans (b := some 2) rfl rfl⟩
theorem EncodedLength.incZpx (b1 : Byte) : EncodedLength.Statement (.incZpx b1) :=
  ⟨rfl, rfl, Eq.trans (b := some 2) rfl rfl⟩
theorem EncodedLength.incAbs (oper : Word) : EncodedLength.Statement (.incAbs oper) :=
  ⟨rfl, rfl, Eq.trans (b := some 3) rfl rfl⟩
theorem EncodedLength.incAbx (oper : Word) : EncodedLength.Statement (.incAbx oper) :=
  ⟨rfl, rfl, Eq.trans (b := some 3) rfl rfl⟩
theorem EncodedLength.inx : EncodedLength.Statement .inx :=
  ⟨rfl, rfl, Eq.trans (b := some 1) rfl rfl⟩
theorem EncodedLength.iny : EncodedLength.Statement .iny :=
  ⟨rfl, rfl, Eq.trans (b := some 1) rfl rfl⟩
theorem EncodedLength.jmpAbs (oper : Word) : EncodedLength.Statement (.jmpAbs oper) :=
  ⟨rfl, rfl, Eq.trans (b := some 3) rfl rfl⟩
theorem EncodedLength.jmpInd (oper : Word) : EncodedLength.Statement (.jmpInd oper) :=
  ⟨rfl, rfl, Eq.trans (b := some 3) rfl rfl⟩
theorem EncodedLength.jsr (oper : Word) : EncodedLength.Statement (.jsr oper) :=
  ⟨rfl, rfl, Eq.trans (b := some 3) rfl rfl⟩
theorem EncodedLength.ldaImm (b1 : Byte) : EncodedLength.Statement (.ldaImm b1) :=
  ⟨rfl, rfl, Eq.trans (b := some 2) rfl rfl⟩
theorem EncodedLength.ldaZp (b1 : Byte) : EncodedLength.Statement (.ldaZp b1) :=
  ⟨rfl, rfl, Eq.trans (b := some 2) rfl rfl⟩
theorem EncodedLength.ldaZpx (b1 : Byte) : EncodedLength.Statement (.ldaZpx b1) :=
  ⟨rfl, rfl, Eq.trans (b := some 2) rfl rfl⟩
theorem EncodedLength.ldaAbs (oper : Word) : EncodedLength.Statement (.ldaAbs oper) :=
  ⟨rfl, rfl, Eq.trans (b := some 3) rfl rfl⟩
theorem EncodedLength.ldaAbx (oper : Word) : EncodedLength.Statement (.ldaAbx oper) :=
  ⟨rfl, rfl, Eq.trans (b := some 3) rfl rfl⟩
theorem EncodedLength.ldaAby (oper : Word) : EncodedLength.Statement (.ldaAby oper) :=
  ⟨rfl, rfl, Eq.trans (b := some 3) rfl rfl⟩
theorem EncodedLength.ldaIzx (b1 : Byte) : EncodedLength.Statement (.ldaIzx b1) :=
  ⟨rfl, rfl, Eq.trans (b := some 2) rfl rfl⟩
theorem EncodedLength.ldaIzy (b1 : Byte) : EncodedLength.Statement (.ldaIzy b1) :=
  ⟨rfl, rfl, Eq.trans (b := some 2) rfl rfl⟩
theorem EncodedLength.ldxImm (b1 : Byte) : EncodedLength.Statement (.ldxImm b1) :=
  ⟨rfl, rfl, Eq.trans (b := some 2) rfl rfl⟩
theorem EncodedLength.ldxZp (b1 : Byte) : EncodedLength.Statement (.ldxZp b1) :=
  ⟨rfl, rfl, Eq.trans (b := some 2) rfl rfl⟩
theorem EncodedLength.ldxZpy (b1 : Byte) : EncodedLength.Statement (.ldxZpy b1) :=
  ⟨rfl, rfl, Eq.trans (b := some 2) rfl rfl⟩
theorem EncodedLength.ldxAbs (oper : Word) : EncodedLength.Statement (.ldxAbs oper) :=
  ⟨rfl, rfl, Eq.trans (b := some 3) rfl rfl⟩
theorem EncodedLength.ldxAby (oper : Word) : EncodedLength.Statement (.ldxAby oper) :=
  ⟨rfl, rfl, Eq.trans (b := some 3) rfl rfl⟩
theorem EncodedLength.ldyImm (b1 : Byte) : EncodedLength.Statement (.ldyImm b1) :=
  ⟨rfl, rfl, Eq.trans (b := some 2) rfl rfl⟩
theorem EncodedLength.ldyZp (b1 : Byte) : EncodedLength.Statement (.ldyZp b1) :=
  ⟨rfl, rfl, Eq.trans (b := some 2) rfl rfl⟩
theorem EncodedLength.ldyZpx (b1 : Byte) : EncodedLength.Statement (.ldyZpx b1) :=
  ⟨rfl, rfl, Eq.trans (b := some 2) rfl rfl⟩
theorem EncodedLength.ldyAbs (oper : Word) : EncodedLength.Statement (.ldyAbs oper) :=
  ⟨rfl, rfl, Eq.trans (b := some 3) rfl rfl⟩
theorem EncodedLength.ldyAbx (oper : Word) : EncodedLength.Statement (.ldyAbx oper) :=
  ⟨rfl, rfl, Eq.trans (b := some 3) rfl rfl⟩
theorem EncodedLength.lsrAcc : EncodedLength.Statement .lsrAcc :=
  ⟨rfl, rfl, Eq.trans (b := some 1) rfl rfl⟩
theorem EncodedLength.lsrZp (b1 : Byte) : EncodedLength.Statement (.lsrZp b1) :=
  ⟨rfl, rfl, Eq.trans (b := some 2) rfl rfl⟩
theorem EncodedLength.lsrZpx (b1 : Byte) : EncodedLength.Statement (.lsrZpx b1) :=
  ⟨rfl, rfl, Eq.trans (b := some 2) rfl rfl⟩
theorem EncodedLength.lsrAbs (oper : Word) : EncodedLength.Statement (.lsrAbs oper) :=
  ⟨rfl, rfl, Eq.trans (b := some 3) rfl rfl⟩
theorem EncodedLength.lsrAbx (oper : Word) : EncodedLength.Statement (.lsrAbx oper) :=
  ⟨rfl, rfl, Eq.trans (b := some 3) rfl rfl⟩
theorem EncodedLength.nop : EncodedLength.Statement .nop :=
  ⟨rfl, rfl, Eq.trans (b := some 1) rfl rfl⟩
theorem EncodedLength.oraImm (b1 : Byte) : EncodedLength.Statement (.oraImm b1) :=
  ⟨rfl, rfl, Eq.trans (b := some 2) rfl rfl⟩
theorem EncodedLength.oraZp (b1 : Byte) : EncodedLength.Statement (.oraZp b1) :=
  ⟨rfl, rfl, Eq.trans (b := some 2) rfl rfl⟩
theorem EncodedLength.oraZpx (b1 : Byte) : EncodedLength.Statement (.oraZpx b1) :=
  ⟨rfl, rfl, Eq.trans (b := some 2) rfl rfl⟩
theorem EncodedLength.oraAbs (oper : Word) : EncodedLength.Statement (.oraAbs oper) :=
  ⟨rfl, rfl, Eq.trans (b := some 3) rfl rfl⟩
theorem EncodedLength.oraAbx (oper : Word) : EncodedLength.Statement (.oraAbx oper) :=
  ⟨rfl, rfl, Eq.trans (b := some 3) rfl rfl⟩
theorem EncodedLength.oraAby (oper : Word) : EncodedLength.Statement (.oraAby oper) :=
  ⟨rfl, rfl, Eq.trans (b := some 3) rfl rfl⟩
theorem EncodedLength.oraIzx (b1 : Byte) : EncodedLength.Statement (.oraIzx b1) :=
  ⟨rfl, rfl, Eq.trans (b := some 2) rfl rfl⟩
theorem EncodedLength.oraIzy (b1 : Byte) : EncodedLength.Statement (.oraIzy b1) :=
  ⟨rfl, rfl, Eq.trans (b := some 2) rfl rfl⟩
theorem EncodedLength.pha : EncodedLength.Statement .pha :=
  ⟨rfl, rfl, Eq.trans (b := some 1) rfl rfl⟩
theorem EncodedLength.php : EncodedLength.Statement .php :=
  ⟨rfl, rfl, Eq.trans (b := some 1) rfl rfl⟩
theorem EncodedLength.pla : EncodedLength.Statement .pla :=
  ⟨rfl, rfl, Eq.trans (b := some 1) rfl rfl⟩
theorem EncodedLength.plp : EncodedLength.Statement .plp :=
  ⟨rfl, rfl, Eq.trans (b := some 1) rfl rfl⟩
theorem EncodedLength.rolAcc : EncodedLength.Statement .rolAcc :=
  ⟨rfl, rfl, Eq.trans (b := some 1) rfl rfl⟩
theorem EncodedLength.rolZp (b1 : Byte) : EncodedLength.Statement (.rolZp b1) :=
  ⟨rfl, rfl, Eq.trans (b := some 2) rfl rfl⟩
theorem EncodedLength.rolZpx (b1 : Byte) : EncodedLength.Statement (.rolZpx b1) :=
  ⟨rfl, rfl, Eq.trans (b := some 2) rfl rfl⟩
theorem EncodedLength.rolAbs (oper : Word) : EncodedLength.Statement (.rolAbs oper) :=
  ⟨rfl, rfl, Eq.trans (b := some 3) rfl rfl⟩
theorem EncodedLength.rolAbx (oper : Word) : EncodedLength.Statement (.rolAbx oper) :=
  ⟨rfl, rfl, Eq.trans (b := some 3) rfl rfl⟩
theorem EncodedLength.rorAcc : EncodedLength.Statement .rorAcc :=
  ⟨rfl, rfl, Eq.trans (b := some 1) rfl rfl⟩
theorem EncodedLength.rorZp (b1 : Byte) : EncodedLength.Statement (.rorZp b1) :=
  ⟨rfl, rfl, Eq.trans (b := some 2) rfl rfl⟩
theorem EncodedLength.rorZpx (b1 : Byte) : EncodedLength.Statement (.rorZpx b1) :=
  ⟨rfl, rfl, Eq.trans (b := some 2) rfl rfl⟩
theorem EncodedLength.rorAbs (oper : Word) : EncodedLength.Statement (.rorAbs oper) :=
  ⟨rfl, rfl, Eq.trans (b := some 3) rfl rfl⟩
theorem EncodedLength.rorAbx (oper : Word) : EncodedLength.Statement (.rorAbx oper) :=
  ⟨rfl, rfl, Eq.trans (b := some 3) rfl rfl⟩
theorem EncodedLength.rti : EncodedLength.Statement .rti :=
  ⟨rfl, rfl, Eq.trans (b := some 1) rfl rfl⟩
theorem EncodedLength.rts : EncodedLength.Statement .rts :=
  ⟨rfl, rfl, Eq.trans (b := some 1) rfl rfl⟩
theorem EncodedLength.sbcImm (b1 : Byte) : EncodedLength.Statement (.sbcImm b1) :=
  ⟨rfl, rfl, Eq.trans (b := some 2) rfl rfl⟩
theorem EncodedLength.sbcZp (b1 : Byte) : EncodedLength.Statement (.sbcZp b1) :=
  ⟨rfl, rfl, Eq.trans (b := some 2) rfl rfl⟩
theorem EncodedLength.sbcZpx (b1 : Byte) : EncodedLength.Statement (.sbcZpx b1) :=
  ⟨rfl, rfl, Eq.trans (b := some 2) rfl rfl⟩
theorem EncodedLength.sbcAbs (oper : Word) : EncodedLength.Statement (.sbcAbs oper) :=
  ⟨rfl, rfl, Eq.trans (b := some 3) rfl rfl⟩
theorem EncodedLength.sbcAbx (oper : Word) : EncodedLength.Statement (.sbcAbx oper) :=
  ⟨rfl, rfl, Eq.trans (b := some 3) rfl rfl⟩
theorem EncodedLength.sbcAby (oper : Word) : EncodedLength.Statement (.sbcAby oper) :=
  ⟨rfl, rfl, Eq.trans (b := some 3) rfl rfl⟩
theorem EncodedLength.sbcIzx (b1 : Byte) : EncodedLength.Statement (.sbcIzx b1) :=
  ⟨rfl, rfl, Eq.trans (b := some 2) rfl rfl⟩
theorem EncodedLength.sbcIzy (b1 : Byte) : EncodedLength.Statement (.sbcIzy b1) :=
  ⟨rfl, rfl, Eq.trans (b := some 2) rfl rfl⟩
theorem EncodedLength.sec : EncodedLength.Statement .sec :=
  ⟨rfl, rfl, Eq.trans (b := some 1) rfl rfl⟩
theorem EncodedLength.sed : EncodedLength.Statement .sed :=
  ⟨rfl, rfl, Eq.trans (b := some 1) rfl rfl⟩
theorem EncodedLength.sei : EncodedLength.Statement .sei :=
  ⟨rfl, rfl, Eq.trans (b := some 1) rfl rfl⟩
theorem EncodedLength.staZp (b1 : Byte) : EncodedLength.Statement (.staZp b1) :=
  ⟨rfl, rfl, Eq.trans (b := some 2) rfl rfl⟩
theorem EncodedLength.staZpx (b1 : Byte) : EncodedLength.Statement (.staZpx b1) :=
  ⟨rfl, rfl, Eq.trans (b := some 2) rfl rfl⟩
theorem EncodedLength.staAbs (oper : Word) : EncodedLength.Statement (.staAbs oper) :=
  ⟨rfl, rfl, Eq.trans (b := some 3) rfl rfl⟩
theorem EncodedLength.staAbx (oper : Word) : EncodedLength.Statement (.staAbx oper) :=
  ⟨rfl, rfl, Eq.trans (b := some 3) rfl rfl⟩
theorem EncodedLength.staAby (oper : Word) : EncodedLength.Statement (.staAby oper) :=
  ⟨rfl, rfl, Eq.trans (b := some 3) rfl rfl⟩
theorem EncodedLength.staIzx (b1 : Byte) : EncodedLength.Statement (.staIzx b1) :=
  ⟨rfl, rfl, Eq.trans (b := some 2) rfl rfl⟩
theorem EncodedLength.staIzy (b1 : Byte) : EncodedLength.Statement (.staIzy b1) :=
  ⟨rfl, rfl, Eq.trans (b := some 2) rfl rfl⟩
theorem EncodedLength.stxZp (b1 : Byte) : EncodedLength.Statement (.stxZp b1) :=
  ⟨rfl, rfl, Eq.trans (b := some 2) rfl rfl⟩
theorem EncodedLength.stxZpy (b1 : Byte) : EncodedLength.Statement (.stxZpy b1) :=
  ⟨rfl, rfl, Eq.trans (b := some 2) rfl rfl⟩
theorem EncodedLength.stxAbs (oper : Word) : EncodedLength.Statement (.stxAbs oper) :=
  ⟨rfl, rfl, Eq.trans (b := some 3) rfl rfl⟩
theorem EncodedLength.styZp (b1 : Byte) : EncodedLength.Statement (.styZp b1) :=
  ⟨rfl, rfl, Eq.trans (b := some 2) rfl rfl⟩
theorem EncodedLength.styZpx (b1 : Byte) : EncodedLength.Statement (.styZpx b1) :=
  ⟨rfl, rfl, Eq.trans (b := some 2) rfl rfl⟩
theorem EncodedLength.styAbs (oper : Word) : EncodedLength.Statement (.styAbs oper) :=
  ⟨rfl, rfl, Eq.trans (b := some 3) rfl rfl⟩
theorem EncodedLength.tax : EncodedLength.Statement .tax :=
  ⟨rfl, rfl, Eq.trans (b := some 1) rfl rfl⟩
theorem EncodedLength.tay : EncodedLength.Statement .tay :=
  ⟨rfl, rfl, Eq.trans (b := some 1) rfl rfl⟩
theorem EncodedLength.tsx : EncodedLength.Statement .tsx :=
  ⟨rfl, rfl, Eq.trans (b := some 1) rfl rfl⟩
theorem EncodedLength.txa : EncodedLength.Statement .txa :=
  ⟨rfl, rfl, Eq.trans (b := some 1) rfl rfl⟩
theorem EncodedLength.txs : EncodedLength.Statement .txs :=
  ⟨rfl, rfl, Eq.trans (b := some 1) rfl rfl⟩
theorem EncodedLength.tya : EncodedLength.Statement .tya :=
  ⟨rfl, rfl, Eq.trans (b := some 1) rfl rfl⟩

end Sys2Proof.Laws
end

