-- ==== Sys2Proof/Tests/Slice0.lean ====
section
/-! SUPPORT. Tests of the model, each one step on a small state, with the expected values of spec/95_test_vectors (the
vector is named), of a hand calculation from the rule named, or of the spec's own encoding tables; and the witnesses:
for every obligation with hypotheses, a state and operands that meet them. -/

namespace Sys2Proof.Tests

open Sys2Proof.Machine Sys2Proof.Claims

/-- Every expansion block fitted, so that the vectors' addresses are RAM. -/
def testParams : Params :=
  { Params.default with block0400 := .ram, block2000 := .ram, block4000 := .ram, block6000 := .ram, blockA000 := .rom }

/-- A machine with these bytes in memory, PC at 0x1000, S = 0xFF and all flags clear. -/
def machine (cells : List (Nat × Byte)) : State :=
  { State.reset with
    sp := 0xFF
    pc := 0x1000
    p := { n := false, v := false, d := false, i := false, z := false, c := false }
    mem := cells.foldl (fun m c => m.write c.1 c.2) []
    params := testParams }

/-- The flags, in the order of the vectors: N V D I Z C. -/
def flags (n v d i z c : Bool) : Flags := { n := n, v := v, d := d, i := i, z := z, c := c }

/-- One step from a state answers a next state with a property. -/
def stepGives (s : State) (q : State → Bool) : Bool :=
  match step s with
  | .next t => q t
  | _ => false

/-- One instruction executed in a state answers a next state with a property. -/
def execGives (i : Instr) (s : State) (q : State → Bool) : Bool :=
  match exec i s with
  | .next t => q t
  | _ => false

/-! ### One step of each instruction, from the vectors of spec/95_test_vectors -/

/-- ADC #$80: V4 of spec/95_test_vectors. -/
theorem test_adc_v4 :
    stepGives
      { machine [(0x1000, 0x69), (0x1001, 0x80)] with a := 0x80 }
      (fun t => t.pc == 0x1002 && t.a == 0x00 && t.p == flags false true false false true true) = true := by
  decide

/-- ADC $12F0,X: V11 of spec/95_test_vectors. -/
theorem test_adc_v11 :
    stepGives
      { machine [(0x1000, 0x7D), (0x1001, 0xF0), (0x1002, 0x12), (0x1210, 0x99), (0x1310, 0x03)] with
        a := 0x01, x := 0x20 }
      (fun t => t.pc == 0x1003 && t.a == 0x04 && t.p == flags false false false false false false) = true := by
  decide

/-- SBC #$01: V20 of spec/95_test_vectors. -/
theorem test_sbc_v20 :
    stepGives
      { machine [(0x1000, 0xE9), (0x1001, 0x01)] with a := 0x80, p := flags false false false false false true }
      (fun t => t.pc == 0x1002 && t.a == 0x7F && t.p == flags false true false false false true) = true := by
  decide

/-- SBC #$01: V26 of spec/95_test_vectors. -/
theorem test_sbc_v26 :
    stepGives
      { machine [(0x1000, 0xE9), (0x1001, 0x01)] with p := flags false false true false false true }
      (fun t => t.pc == 0x1002 && t.a == 0x99 && t.p.c == false && t.p.d) = true := by
  decide

/-- AND #$3C: V28 of spec/95_test_vectors. -/
theorem test_and_v28 :
    stepGives
      { machine [(0x1000, 0x29), (0x1001, 0x3C)] with a := 0xF0 }
      (fun t => t.pc == 0x1002 && t.a == 0x30 && t.p == flags false false false false false false) = true := by
  decide

/-- AND $2000,Y: V30 of spec/95_test_vectors. -/
theorem test_and_v30 :
    stepGives
      { machine [(0x1000, 0x39), (0x1001, 0x00), (0x1002, 0x20), (0x2005, 0x80)] with a := 0xFF, y := 0x05 }
      (fun t => t.pc == 0x1003 && t.a == 0x80 && t.p == flags true false false false false false) = true := by
  decide

/-- ORA #$00: V32 of spec/95_test_vectors. -/
theorem test_ora_v32 :
    stepGives
      { machine [(0x1000, 0x09), (0x1001, 0x00)] with p := flags false true false false false true }
      (fun t => t.pc == 0x1002 && t.p == flags false true false false true true) = true := by
  decide

/-- ORA $1FFF,X: V33 of spec/95_test_vectors. -/
theorem test_ora_v33 :
    stepGives
      { machine [(0x1000, 0x1D), (0x1001, 0xFF), (0x1002, 0x1F), (0x2000, 0x02)] with a := 0x01, x := 0x01 }
      (fun t => t.pc == 0x1003 && t.a == 0x03 && t.p == flags false false false false false false) = true := by
  decide

/-- EOR #$FF: V34 of spec/95_test_vectors. -/
theorem test_eor_v34 :
    stepGives
      { machine [(0x1000, 0x49), (0x1001, 0xFF)] with a := 0xAA }
      (fun t => t.pc == 0x1002 && t.a == 0x55 && t.p == flags false false false false false false) = true := by
  decide

/-- EOR $1234: V36 of spec/95_test_vectors. -/
theorem test_eor_v36 :
    stepGives
      { machine [(0x1000, 0x4D), (0x1001, 0x34), (0x1002, 0x12), (0x1234, 0xF0)] with a := 0x0F }
      (fun t => t.pc == 0x1003 && t.a == 0xFF && t.p == flags true false false false false false) = true := by
  decide

/-- BIT $40: V37 of spec/95_test_vectors. -/
theorem test_bit_v37 :
    stepGives
      { machine [(0x0040, 0x40), (0x1000, 0x24), (0x1001, 0x40)] with a := 0x01 }
      (fun t => t.pc == 0x1002 && t.p == flags false true false false true false) = true := by
  decide

/-- BIT $40: V39 of spec/95_test_vectors. -/
theorem test_bit_v39 :
    stepGives
      { machine [(0x0040, 0x3F), (0x1000, 0x24), (0x1001, 0x40)] with p := flags true true false false false false }
      (fun t => t.pc == 0x1002 && t.p == flags false false false false true false) = true := by
  decide

/-- CMP #$7F: V42 of spec/95_test_vectors. -/
theorem test_cmp_v42 :
    stepGives
      { machine [(0x1000, 0xC9), (0x1001, 0x7F)] with a := 0x80 }
      (fun t => t.pc == 0x1002 && t.p == flags false false false false false true) = true := by
  decide

/-- CMP ($10),Y: V44 of spec/95_test_vectors. -/
theorem test_cmp_v44 :
    stepGives
      { machine [(0x0010, 0xFF), (0x0011, 0x1E), (0x1000, 0xD1), (0x1001, 0x10), (0x1F00, 0x05)] with
        a := 0x05, y := 0x01 }
      (fun t => t.pc == 0x1002 && t.p == flags false false false false true true) = true := by
  decide

/-- CPX #$10: V45 of spec/95_test_vectors. -/
theorem test_cpx_v45 :
    stepGives
      { machine [(0x1000, 0xE0), (0x1001, 0x10)] with x := 0x10 }
      (fun t => t.pc == 0x1002 && t.p == flags false false false false true true) = true := by
  decide

/-- CPX $0300: V46 of spec/95_test_vectors. -/
theorem test_cpx_v46 :
    stepGives
      (machine [(0x0300, 0x01), (0x1000, 0xEC), (0x1001, 0x00), (0x1002, 0x03)])
      (fun t => t.pc == 0x1003 && t.p == flags true false false false false false) = true := by
  decide

/-- CPY #$FF: V47 of spec/95_test_vectors. -/
theorem test_cpy_v47 :
    stepGives
      (machine [(0x1000, 0xC0), (0x1001, 0xFF)])
      (fun t => t.pc == 0x1002 && t.p == flags false false false false false false) = true := by
  decide

/-- CPY $80: V48 of spec/95_test_vectors. -/
theorem test_cpy_v48 :
    stepGives
      { machine [(0x0080, 0x10), (0x1000, 0xC4), (0x1001, 0x80)] with y := 0x90 }
      (fun t => t.pc == 0x1002 && t.p == flags true false false false false true) = true := by
  decide

/-- ASL A: V49 of spec/95_test_vectors. -/
theorem test_asl_v49 :
    stepGives
      { machine [(0x1000, 0x0A)] with a := 0xC1 }
      (fun t => t.pc == 0x1001 && t.a == 0x82 && t.p == flags true false false false false true) = true := by
  decide

/-- ASL $1E00,X: V53 of spec/95_test_vectors. -/
theorem test_asl_v53 :
    stepGives
      { machine [(0x1000, 0x1E), (0x1001, 0x00), (0x1002, 0x1E), (0x1E02, 0x01)] with x := 0x02 }
      (fun t => t.pc == 0x1003 && t.p == flags false false false false false false && t.stored 0x1E02 == 0x02) = true
        := by
  decide

/-- LSR A: V54 of spec/95_test_vectors. -/
theorem test_lsr_v54 :
    stepGives
      { machine [(0x1000, 0x4A)] with a := 0x03, p := flags true false false false false false }
      (fun t => t.pc == 0x1001 && t.a == 0x01 && t.p == flags false false false false false true) = true := by
  decide

/-- LSR $F0,X: V56 of spec/95_test_vectors. -/
theorem test_lsr_v56 :
    stepGives
      { machine [(0x0001, 0xFF), (0x1000, 0x56), (0x1001, 0xF0)] with x := 0x11 }
      (fun t => t.pc == 0x1002 && t.p == flags false false false false false true && t.stored 0x0001 == 0x7F) = true
        := by
  decide

/-- ROL A: V58 of spec/95_test_vectors. -/
theorem test_rol_v58 :
    stepGives
      { machine [(0x1000, 0x2A)] with a := 0x40, p := flags false false false false false true }
      (fun t => t.pc == 0x1001 && t.a == 0x81 && t.p == flags true false false false false false) = true := by
  decide

/-- ROL $10: V61 of spec/95_test_vectors. -/
theorem test_rol_v61 :
    stepGives
      { machine [(0x0010, 0xFF), (0x1000, 0x26), (0x1001, 0x10)] with p := flags false false false false false true }
      (fun t => t.pc == 0x1002 && t.p == flags true false false false false true && t.stored 0x0010 == 0xFF) = true :=
        by
  decide

/-- ROR A: V62 of spec/95_test_vectors. -/
theorem test_ror_v62 :
    stepGives
      { machine [(0x1000, 0x6A)] with a := 0x02, p := flags false false false false false true }
      (fun t => t.pc == 0x1001 && t.a == 0x81 && t.p == flags true false false false false false) = true := by
  decide

/-- ROR $0200,X: V65 of spec/95_test_vectors. -/
theorem test_ror_v65 :
    stepGives
      { machine [(0x02FF, 0x03), (0x1000, 0x7E), (0x1001, 0x00), (0x1002, 0x02)] with x := 0xFF }
      (fun t => t.pc == 0x1003 && t.p == flags false false false false false true && t.stored 0x02FF == 0x01) = true
        := by
  decide

/-- BCC $1006: V67 of spec/95_test_vectors. -/
theorem test_bcc_v67 :
    stepGives
      { machine [(0x1000, 0x90), (0x1001, 0x04)] with p := flags false false false false false true }
      (fun t => t.pc == 0x1002 && t.p == flags false false false false false true) = true := by
  decide

/-- BCC $FF82 at 0x0000: V82 of spec/95_test_vectors. -/
theorem test_bcc_v82 :
    stepGives
      { machine [(0x0000, 0x90), (0x0001, 0x80)] with pc := 0x0000 }
      (fun t => t.pc == 0xFF82 && t.p == flags false false false false false false) = true := by
  decide

/-- BCS $0FFE: V68 of spec/95_test_vectors. -/
theorem test_bcs_v68 :
    stepGives
      { machine [(0x1000, 0xB0), (0x1001, 0xFC)] with p := flags false false false false false true }
      (fun t => t.pc == 0x0FFE && t.p == flags false false false false false true) = true := by
  decide

/-- BEQ $2012 at 0x2000: V70 of spec/95_test_vectors. -/
theorem test_beq_v70 :
    stepGives
      { machine [(0x2000, 0xF0), (0x2001, 0x10)] with pc := 0x2000, p := flags false false false false true false }
      (fun t => t.pc == 0x2012 && t.p == flags false false false false true false) = true := by
  decide

/-- BNE $1002 at 0x1005: V72 of spec/95_test_vectors. -/
theorem test_bne_v72 :
    stepGives
      { machine [(0x1005, 0xD0), (0x1006, 0xFB)] with pc := 0x1005 }
      (fun t => t.pc == 0x1002 && t.p == flags false false false false false false) = true := by
  decide

/-- BMI $2000 at 0x2000: V74 of spec/95_test_vectors. -/
theorem test_bmi_v74 :
    stepGives
      { machine [(0x2000, 0x30), (0x2001, 0xFE)] with pc := 0x2000, p := flags true false false false false false }
      (fun t => t.pc == 0x2000 && t.p == flags true false false false false false) = true := by
  decide

/-- BPL $2081 at 0x2000: V77 of spec/95_test_vectors. -/
theorem test_bpl_v77 :
    stepGives
      { machine [(0x2000, 0x10), (0x2001, 0x7F)] with pc := 0x2000, p := flags true false false false false false }
      (fun t => t.pc == 0x2002 && t.p == flags true false false false false false) = true := by
  decide

/-- BVC $2004 at 0x2000: V78 of spec/95_test_vectors. -/
theorem test_bvc_v78 :
    stepGives
      { machine [(0x2000, 0x50), (0x2001, 0x02)] with pc := 0x2000 }
      (fun t => t.pc == 0x2004 && t.p == flags false false false false false false) = true := by
  decide

/-- BVS $1F82 at 0x2000: V80 of spec/95_test_vectors. -/
theorem test_bvs_v80 :
    stepGives
      { machine [(0x2000, 0x70), (0x2001, 0x80)] with pc := 0x2000, p := flags false true false false false false }
      (fun t => t.pc == 0x1F82 && t.p == flags false true false false false false) = true := by
  decide

/-- CLC: V85 of spec/95_test_vectors. -/
theorem test_clc_v85 :
    stepGives
      { machine [(0x1000, 0x18)] with p := flags true true true true true true }
      (fun t => t.pc == 0x1001 && t.p == flags true true true true true false) = true := by
  decide

/-- CLD: V86 of spec/95_test_vectors. -/
theorem test_cld_v86 :
    stepGives
      { machine [(0x1000, 0xD8)] with p := flags true true true true true true }
      (fun t => t.pc == 0x1001 && t.p == flags true true false true true true) = true := by
  decide

/-- CLI: V87 of spec/95_test_vectors. -/
theorem test_cli_v87 :
    stepGives
      { machine [(0x1000, 0x58)] with p := flags true true true true true true }
      (fun t => t.pc == 0x1001 && t.p == flags true true true false true true) = true := by
  decide

/-- CLV: V88 of spec/95_test_vectors. -/
theorem test_clv_v88 :
    stepGives
      { machine [(0x1000, 0xB8)] with p := flags true true true true true true }
      (fun t => t.pc == 0x1001 && t.p == flags true false true true true true) = true := by
  decide

/-- SEC: V89 of spec/95_test_vectors. -/
theorem test_sec_v89 :
    stepGives
      (machine [(0x1000, 0x38)])
      (fun t => t.pc == 0x1001 && t.p == flags false false false false false true) = true := by
  decide

/-- SED: V90 of spec/95_test_vectors. -/
theorem test_sed_v90 :
    stepGives
      (machine [(0x1000, 0xF8)])
      (fun t => t.pc == 0x1001 && t.p == flags false false true false false false) = true := by
  decide

/-- SEI: V91 of spec/95_test_vectors. -/
theorem test_sei_v91 :
    stepGives
      (machine [(0x1000, 0x78)])
      (fun t => t.pc == 0x1001 && t.p == flags false false false true false false) = true := by
  decide

/-- DEC $10: V93 of spec/95_test_vectors. -/
theorem test_dec_v93 :
    stepGives
      (machine [(0x0010, 0x00), (0x1000, 0xC6), (0x1001, 0x10)])
      (fun t => t.pc == 0x1002 && t.p == flags true false false false false false && t.stored 0x0010 == 0xFF) = true
        := by
  decide

/-- DEC $1E00,X: V94 of spec/95_test_vectors. -/
theorem test_dec_v94 :
    stepGives
      { machine [(0x1000, 0xDE), (0x1001, 0x00), (0x1002, 0x1E), (0x1E05, 0x80)] with x := 0x05 }
      (fun t => t.pc == 0x1003 && t.p == flags false false false false false false && t.stored 0x1E05 == 0x7F) = true
        := by
  decide

/-- INC $1E00: V95 of spec/95_test_vectors. -/
theorem test_inc_v95 :
    stepGives
      (machine [(0x1000, 0xEE), (0x1001, 0x00), (0x1002, 0x1E), (0x1E00, 0xFF)])
      (fun t => t.pc == 0x1003 && t.p == flags false false false false true false && t.stored 0x1E00 == 0x00) = true
        := by
  decide

/-- INC $FF,X: V96 of spec/95_test_vectors. -/
theorem test_inc_v96 :
    stepGives
      { machine [(0x0000, 0x7F), (0x0100, 0x11), (0x1000, 0xF6), (0x1001, 0xFF)] with x := 0x01 }
      (fun t => t.pc == 0x1002 && t.p == flags true false false false false false && t.stored 0x0000 == 0x80) = true
        := by
  decide

/-- DEX: V97 of spec/95_test_vectors. -/
theorem test_dex_v97 :
    stepGives
      (machine [(0x1000, 0xCA)])
      (fun t => t.pc == 0x1001 && t.x == 0xFF && t.p == flags true false false false false false) = true := by
  decide

/-- DEY: V99 of spec/95_test_vectors. -/
theorem test_dey_v99 :
    stepGives
      { machine [(0x1000, 0x88)] with x := 0x55 }
      (fun t => t.pc == 0x1001 && t.y == 0xFF && t.p == flags true false false false false false) = true := by
  decide

/-- INX: V100 of spec/95_test_vectors. -/
theorem test_inx_v100 :
    stepGives
      { machine [(0x1000, 0xE8)] with x := 0xFF }
      (fun t => t.pc == 0x1001 && t.x == 0x00 && t.p == flags false false false false true false) = true := by
  decide

/-- INY: V102 of spec/95_test_vectors. -/
theorem test_iny_v102 :
    stepGives
      { machine [(0x1000, 0xC8)] with x := 0x55, y := 0x7F }
      (fun t => t.pc == 0x1001 && t.y == 0x80 && t.p == flags true false false false false false) = true := by
  decide

/-- JMP $1234: V104 of spec/95_test_vectors. -/
theorem test_jmp_v104 :
    stepGives
      { machine [(0x1000, 0x4C), (0x1001, 0x34), (0x1002, 0x12)] with p := flags true true true true true true }
      (fun t => t.pc == 0x1234 && t.p == flags true true true true true true) = true := by
  decide

/-- JMP ($12FF): V107 of spec/95_test_vectors. -/
theorem test_jmp_v107 :
    stepGives
      (machine [(0x1000, 0x6C), (0x1001, 0xFF), (0x1002, 0x12), (0x1200, 0x80), (0x12FF, 0x34), (0x1300, 0x90)])
      (fun t => t.pc == 0x8034 && t.p == flags false false false false false false) = true := by
  decide

/-- JSR $2000: V110 of spec/95_test_vectors. -/
theorem test_jsr_v110 :
    stepGives
      { machine [(0x1000, 0x20), (0x1001, 0x00), (0x1002, 0x20)] with sp := 0x00 }
      (fun t => t.pc == 0x2000 && t.sp == 0xFE && t.p == flags false false false false false false && t.stored 0x0100
        == 0x10 && t.stored 0x01FF == 0x02) = true := by
  decide

/-- JSR $0400 at 0xFFFD: V111 of spec/95_test_vectors. -/
theorem test_jsr_v111 :
    stepGives
      { machine [(0xFFFD, 0x20), (0xFFFE, 0x00), (0xFFFF, 0x04)] with sp := 0x80, pc := 0xFFFD }
      (fun t => t.pc == 0x0400 && t.sp == 0x7E && t.p == flags false false false false false false && t.stored 0x0180
        == 0xFF && t.stored 0x017F == 0xFF) = true := by
  decide

/-- RTS at 0x2000: V112 of spec/95_test_vectors. -/
theorem test_rts_v112 :
    stepGives
      { machine [(0x01FE, 0x02), (0x01FF, 0x10), (0x2000, 0x60)] with sp := 0xFD, pc := 0x2000 }
      (fun t => t.pc == 0x1003 && t.sp == 0xFF && t.p == flags false false false false false false) = true := by
  decide

/-- RTS at 0x2000: V113 of spec/95_test_vectors. -/
theorem test_rts_v113 :
    stepGives
      { machine [(0x0100, 0xFF), (0x01FF, 0xFF), (0x2000, 0x60)] with sp := 0xFE, pc := 0x2000 }
      (fun t => t.pc == 0x0000 && t.sp == 0x00 && t.p == flags false false false false false false) = true := by
  decide

/-- LDA $80,X: V118 of spec/95_test_vectors. -/
theorem test_lda_v118 :
    stepGives
      { machine [(0x007F, 0x22), (0x017F, 0x99), (0x1000, 0xB5), (0x1001, 0x80)] with x := 0xFF }
      (fun t => t.pc == 0x1002 && t.a == 0x22 && t.p == flags false false false false false false) = true := by
  decide

/-- LDA ($FF,X): V123 of spec/95_test_vectors. -/
theorem test_lda_v123 :
    stepGives
      (machine [(0x0000, 0x1E), (0x00FF, 0x00), (0x0100, 0x77), (0x1000, 0xA1), (0x1001, 0xFF), (0x1E00, 0x66)])
      (fun t => t.pc == 0x1002 && t.a == 0x66 && t.p == flags false false false false false false) = true := by
  decide

/-- LDX $FF,Y: V126 of spec/95_test_vectors. -/
theorem test_ldx_v126 :
    stepGives
      { machine [(0x0001, 0x7F), (0x0101, 0x99), (0x1000, 0xB6), (0x1001, 0xFF)] with y := 0x02 }
      (fun t => t.pc == 0x1002 && t.x == 0x7F && t.p == flags false false false false false false) = true := by
  decide

/-- LDX $1E00,Y: V127 of spec/95_test_vectors. -/
theorem test_ldx_v127 :
    stepGives
      { machine [(0x1000, 0xBE), (0x1001, 0x00), (0x1002, 0x1E), (0x1E03, 0x00)] with y := 0x03 }
      (fun t => t.pc == 0x1003 && t.p == flags false false false false true false) = true := by
  decide

/-- LDY $10,X: V129 of spec/95_test_vectors. -/
theorem test_ldy_v129 :
    stepGives
      { machine [(0x0011, 0x80), (0x1000, 0xB4), (0x1001, 0x10)] with x := 0x01 }
      (fun t => t.pc == 0x1002 && t.y == 0x80 && t.p == flags true false false false false false) = true := by
  decide

/-- LDY $1E00,X: V130 of spec/95_test_vectors. -/
theorem test_ldy_v130 :
    stepGives
      { machine [(0x1000, 0xBC), (0x1001, 0x00), (0x1002, 0x1E), (0x1EFF, 0x01)] with x := 0xFF }
      (fun t => t.pc == 0x1003 && t.y == 0x01 && t.p == flags false false false false false false) = true := by
  decide

/-- STA $10,X: V132 of spec/95_test_vectors. -/
theorem test_sta_v132 :
    stepGives
      { machine [(0x1000, 0x95), (0x1001, 0x10)] with a := 0x5A, x := 0xF8 }
      (fun t => t.pc == 0x1002 && t.p == flags false false false false false false && t.stored 0x0008 == 0x5A) = true
        := by
  decide

/-- STA ($FB),Y: V137 of spec/95_test_vectors. -/
theorem test_sta_v137 :
    stepGives
      { machine [(0x00FB, 0x00), (0x00FC, 0x1E), (0x1000, 0x91), (0x1001, 0xFB)] with a := 0x2A, y := 0x10 }
      (fun t => t.pc == 0x1002 && t.p == flags false false false false false false && t.stored 0x1E10 == 0x2A) = true
        := by
  decide

/-- STX $0200: V138 of spec/95_test_vectors. -/
theorem test_stx_v138 :
    stepGives
      { machine [(0x1000, 0x8E), (0x1001, 0x00), (0x1002, 0x02)] with x := 0x33 }
      (fun t => t.pc == 0x1003 && t.p == flags false false false false false false && t.stored 0x0200 == 0x33) = true
        := by
  decide

/-- STX $10,Y: V139 of spec/95_test_vectors. -/
theorem test_stx_v139 :
    stepGives
      { machine [(0x1000, 0x96), (0x1001, 0x10)] with x := 0x33, y := 0xF1 }
      (fun t => t.pc == 0x1002 && t.p == flags false false false false false false && t.stored 0x0001 == 0x33) = true
        := by
  decide

/-- STY $10,X: V140 of spec/95_test_vectors. -/
theorem test_sty_v140 :
    stepGives
      { machine [(0x1000, 0x94), (0x1001, 0x10)] with x := 0x01, y := 0x44 }
      (fun t => t.pc == 0x1002 && t.p == flags false false false false false false && t.stored 0x0011 == 0x44) = true
        := by
  decide

/-- PHA: V143 of spec/95_test_vectors. -/
theorem test_pha_v143 :
    stepGives
      { machine [(0x1000, 0x48)] with a := 0x7E }
      (fun t => t.pc == 0x1001 && t.sp == 0xFE && t.p == flags false false false false false false && t.stored 0x01FF
        == 0x7E) = true := by
  decide

/-- PHA: V144 of spec/95_test_vectors. -/
theorem test_pha_v144 :
    stepGives
      { machine [(0x1000, 0x48)] with a := 0x7E, sp := 0x00 }
      (fun t => t.pc == 0x1001 && t.sp == 0xFF && t.p == flags false false false false false false && t.stored 0x0100
        == 0x7E) = true := by
  decide

/-- PHP: V145 of spec/95_test_vectors. -/
theorem test_php_v145 :
    stepGives
      { machine [(0x1000, 0x08)] with p := flags false false false true true true }
      (fun t => t.pc == 0x1001 && t.sp == 0xFE && t.p == flags false false false true true true && t.stored 0x01FF ==
        0x37) = true := by
  decide

/-- PHP: V147 of spec/95_test_vectors. -/
theorem test_php_v147 :
    stepGives
      { machine [(0x1000, 0x08)] with p := flags true true true true true true }
      (fun t => t.pc == 0x1001 && t.sp == 0xFE && t.p == flags true true true true true true && t.stored 0x01FF ==
        0xFF) = true := by
  decide

/-- PLA: V148 of spec/95_test_vectors. -/
theorem test_pla_v148 :
    stepGives
      { machine [(0x01FF, 0x80), (0x1000, 0x68)] with sp := 0xFE }
      (fun t => t.pc == 0x1001 && t.a == 0x80 && t.sp == 0xFF && t.p == flags true false false false false false) =
        true := by
  decide

/-- PLA: V150 of spec/95_test_vectors. -/
theorem test_pla_v150 :
    stepGives
      { machine [(0x01FF, 0x80), (0x1000, 0x68)] with
        sp := 0xFE, p := flags false false false false true false, params := { testParams with plaSetsNZ := false } }
      (fun t => t.pc == 0x1001 && t.a == 0x80 && t.sp == 0xFF && t.p == flags false false false false true false) =
        true := by
  decide

/-- PLP: V152 of spec/95_test_vectors. -/
theorem test_plp_v152 :
    stepGives
      { machine [(0x01FF, 0xC3), (0x1000, 0x28)] with sp := 0xFE }
      (fun t => t.pc == 0x1001 && t.sp == 0xFF && t.p == flags true true false false true true) = true := by
  decide

/-- PLP: V153 of spec/95_test_vectors. -/
theorem test_plp_v153 :
    stepGives
      { machine [(0x01FF, 0x30), (0x1000, 0x28)] with sp := 0xFE, p := flags true true true true true true }
      (fun t => t.pc == 0x1001 && t.sp == 0xFF && t.p == flags false false false false false false) = true := by
  decide

/-- TAX: V155 of spec/95_test_vectors. -/
theorem test_tax_v155 :
    stepGives
      { machine [(0x1000, 0xAA)] with x := 0x55 }
      (fun t => t.pc == 0x1001 && t.x == 0x00 && t.p == flags false false false false true false) = true := by
  decide

/-- TAY: V156 of spec/95_test_vectors. -/
theorem test_tay_v156 :
    stepGives
      { machine [(0x1000, 0xA8)] with a := 0x90 }
      (fun t => t.pc == 0x1001 && t.y == 0x90 && t.p == flags true false false false false false) = true := by
  decide

/-- TSX: V157 of spec/95_test_vectors. -/
theorem test_tsx_v157 :
    stepGives
      { machine [(0x1000, 0xBA)] with sp := 0xFD }
      (fun t => t.pc == 0x1001 && t.x == 0xFD && t.p == flags true false false false false false) = true := by
  decide

/-- TSX: V158 of spec/95_test_vectors. -/
theorem test_tsx_v158 :
    stepGives
      { machine [(0x1000, 0xBA)] with x := 0x55, sp := 0x00 }
      (fun t => t.pc == 0x1001 && t.x == 0x00 && t.p == flags false false false false true false) = true := by
  decide

/-- TXA: V159 of spec/95_test_vectors. -/
theorem test_txa_v159 :
    stepGives
      { machine [(0x1000, 0x8A)] with a := 0xFF, x := 0x7F, p := flags true false false false false false }
      (fun t => t.pc == 0x1001 && t.a == 0x7F && t.p == flags false false false false false false) = true := by
  decide

/-- TXS: V160 of spec/95_test_vectors. -/
theorem test_txs_v160 :
    stepGives
      { machine [(0x1000, 0x9A)] with x := 0xFF, sp := 0x00, p := flags false false false false true false }
      (fun t => t.pc == 0x1001 && t.sp == 0xFF && t.p == flags false false false false true false) = true := by
  decide

/-- TYA: V162 of spec/95_test_vectors. -/
theorem test_tya_v162 :
    stepGives
      { machine [(0x1000, 0x98)] with a := 0x55 }
      (fun t => t.pc == 0x1001 && t.a == 0x00 && t.p == flags false false false false true false) = true := by
  decide

/-- BRK: V163 of spec/95_test_vectors. -/
theorem test_brk_v163 :
    stepGives
      { machine [(0x1000, 0x00), (0xFFFE, 0x72), (0xFFFF, 0xFF)] with p := flags false false false false false true }
      (fun t => t.pc == 0xFF72 && t.sp == 0xFC && t.p == flags false false false true false true && t.stored 0x01FF ==
        0x10 && t.stored 0x01FE == 0x02 && t.stored 0x01FD == 0x31) = true := by
  decide

/-- BRK at 0xFFFE: V165 of spec/95_test_vectors. -/
theorem test_brk_v165 :
    stepGives
      { machine [(0xFFFE, 0x00), (0xFFFF, 0x80)] with pc := 0xFFFE }
      (fun t => t.pc == 0x8000 && t.sp == 0xFC && t.p == flags false false false true false false && t.stored 0x01FF
        == 0x00 && t.stored 0x01FE == 0x00 && t.stored 0x01FD == 0x30) = true := by
  decide

/-- NOP: V166 of spec/95_test_vectors. -/
theorem test_nop_v166 :
    stepGives
      { machine [(0x1000, 0xEA)] with p := flags true true true true true true }
      (fun t => t.pc == 0x1001 && t.p == flags true true true true true true) = true := by
  decide

/-- RTI at 0xFF72: V167 of spec/95_test_vectors. -/
theorem test_rti_v167 :
    stepGives
      { machine [(0x01FD, 0x31), (0x01FE, 0x02), (0x01FF, 0x10), (0xFF72, 0x40)] with
        sp := 0xFC, pc := 0xFF72, p := flags false false false true false false }
      (fun t => t.pc == 0x1002 && t.sp == 0xFF && t.p == flags false false false false false true) = true := by
  decide

/-- RTI at 0xFF72: V168 of spec/95_test_vectors. -/
theorem test_rti_v168 :
    stepGives
      { machine [(0x01FD, 0xCF), (0x01FE, 0xFF), (0x01FF, 0xFF), (0xFF72, 0x40)] with sp := 0xFC, pc := 0xFF72 }
      (fun t => t.pc == 0xFFFF && t.sp == 0xFF && t.p == flags true true true true true true) = true := by
  decide
/-! ### Decoding: every word of the opcode map, written out from spec/30_encoding R93, with its operand bytes -/

/-- The decoder reads each byte sequence as its instruction, with nothing left, and the encoder gives the bytes back. -/
def decodeAll (words : List (List Byte × Instr)) : Bool :=
  words.all fun w => decode w.1 == .instr w.2 [] && encode w.2 == w.1

/-- The words of spec/30_encoding R93 and R96 (system). -/
theorem test_decode_system :
    decodeAll
      [([0x00], .brk), ([0x40], .rti), ([0xEA], .nop)] = true := by
  decide

/-- The words of spec/30_encoding R93 and R96 (ora_eor). -/
theorem test_decode_ora_eor :
    decodeAll
      [([0x01, 0x5A], .oraIzx 0x5A), ([0x05, 0x5A], .oraZp 0x5A), ([0x09, 0x5A], .oraImm 0x5A),
       ([0x0D, 0x34, 0x12], .oraAbs 0x1234), ([0x11, 0x5A], .oraIzy 0x5A), ([0x15, 0x5A], .oraZpx 0x5A),
       ([0x19, 0x34, 0x12], .oraAby 0x1234), ([0x1D, 0x34, 0x12], .oraAbx 0x1234), ([0x41, 0x5A], .eorIzx 0x5A),
       ([0x45, 0x5A], .eorZp 0x5A), ([0x49, 0x5A], .eorImm 0x5A), ([0x4D, 0x34, 0x12], .eorAbs 0x1234),
       ([0x51, 0x5A], .eorIzy 0x5A), ([0x55, 0x5A], .eorZpx 0x5A), ([0x59, 0x34, 0x12], .eorAby 0x1234),
       ([0x5D, 0x34, 0x12], .eorAbx 0x1234)] = true := by
  decide

/-- The words of spec/30_encoding R93 and R96 (shift_rotate). -/
theorem test_decode_shift_rotate :
    decodeAll
      [([0x06, 0x5A], .aslZp 0x5A), ([0x0A], .aslAcc), ([0x0E, 0x34, 0x12], .aslAbs 0x1234),
       ([0x16, 0x5A], .aslZpx 0x5A), ([0x1E, 0x34, 0x12], .aslAbx 0x1234), ([0x26, 0x5A], .rolZp 0x5A),
       ([0x2A], .rolAcc), ([0x2E, 0x34, 0x12], .rolAbs 0x1234), ([0x36, 0x5A], .rolZpx 0x5A),
       ([0x3E, 0x34, 0x12], .rolAbx 0x1234), ([0x46, 0x5A], .lsrZp 0x5A), ([0x4A], .lsrAcc),
       ([0x4E, 0x34, 0x12], .lsrAbs 0x1234), ([0x56, 0x5A], .lsrZpx 0x5A), ([0x5E, 0x34, 0x12], .lsrAbx 0x1234),
       ([0x66, 0x5A], .rorZp 0x5A), ([0x6A], .rorAcc), ([0x6E, 0x34, 0x12], .rorAbs 0x1234),
       ([0x76, 0x5A], .rorZpx 0x5A), ([0x7E, 0x34, 0x12], .rorAbx 0x1234)] = true := by
  decide

/-- The words of spec/30_encoding R93 and R96 (stack_transfer). -/
theorem test_decode_stack_transfer :
    decodeAll
      [([0x08], .php), ([0x28], .plp), ([0x48], .pha), ([0x68], .pla), ([0x8A], .txa), ([0x98], .tya),
       ([0x9A], .txs), ([0xA8], .tay), ([0xAA], .tax), ([0xBA], .tsx)] = true := by
  decide

/-- The words of spec/30_encoding R93 and R96 (branch). -/
theorem test_decode_branch :
    decodeAll
      [([0x10, 0x5A], .bpl 0x5A), ([0x30, 0x5A], .bmi 0x5A), ([0x50, 0x5A], .bvc 0x5A),
       ([0x70, 0x5A], .bvs 0x5A), ([0x90, 0x5A], .bcc 0x5A), ([0xB0, 0x5A], .bcs 0x5A),
       ([0xD0, 0x5A], .bne 0x5A), ([0xF0, 0x5A], .beq 0x5A)] = true := by
  decide

/-- The words of spec/30_encoding R93 and R96 (flag). -/
theorem test_decode_flag :
    decodeAll
      [([0x18], .clc), ([0x38], .sec), ([0x58], .cli), ([0x78], .sei), ([0xB8], .clv), ([0xD8], .cld),
       ([0xF8], .sed)] = true := by
  decide

/-- The words of spec/30_encoding R93 and R96 (jump_sub). -/
theorem test_decode_jump_sub :
    decodeAll
      [([0x20, 0x34, 0x12], .jsr 0x1234), ([0x4C, 0x34, 0x12], .jmpAbs 0x1234), ([0x60], .rts),
       ([0x6C, 0x34, 0x12], .jmpInd 0x1234)] = true := by
  decide

/-- The words of spec/30_encoding R93 and R96 (and_bit). -/
theorem test_decode_and_bit :
    decodeAll
      [([0x21, 0x5A], .andIzx 0x5A), ([0x24, 0x5A], .bitZp 0x5A), ([0x25, 0x5A], .andZp 0x5A),
       ([0x29, 0x5A], .andImm 0x5A), ([0x2C, 0x34, 0x12], .bitAbs 0x1234), ([0x2D, 0x34, 0x12], .andAbs 0x1234),
       ([0x31, 0x5A], .andIzy 0x5A), ([0x35, 0x5A], .andZpx 0x5A), ([0x39, 0x34, 0x12], .andAby 0x1234),
       ([0x3D, 0x34, 0x12], .andAbx 0x1234)] = true := by
  decide

/-- The words of spec/30_encoding R93 and R96 (adc_sbc). -/
theorem test_decode_adc_sbc :
    decodeAll
      [([0x61, 0x5A], .adcIzx 0x5A), ([0x65, 0x5A], .adcZp 0x5A), ([0x69, 0x5A], .adcImm 0x5A),
       ([0x6D, 0x34, 0x12], .adcAbs 0x1234), ([0x71, 0x5A], .adcIzy 0x5A), ([0x75, 0x5A], .adcZpx 0x5A),
       ([0x79, 0x34, 0x12], .adcAby 0x1234), ([0x7D, 0x34, 0x12], .adcAbx 0x1234), ([0xE1, 0x5A], .sbcIzx 0x5A),
       ([0xE5, 0x5A], .sbcZp 0x5A), ([0xE9, 0x5A], .sbcImm 0x5A), ([0xED, 0x34, 0x12], .sbcAbs 0x1234),
       ([0xF1, 0x5A], .sbcIzy 0x5A), ([0xF5, 0x5A], .sbcZpx 0x5A), ([0xF9, 0x34, 0x12], .sbcAby 0x1234),
       ([0xFD, 0x34, 0x12], .sbcAbx 0x1234)] = true := by
  decide

/-- The words of spec/30_encoding R93 and R96 (store). -/
theorem test_decode_store :
    decodeAll
      [([0x81, 0x5A], .staIzx 0x5A), ([0x84, 0x5A], .styZp 0x5A), ([0x85, 0x5A], .staZp 0x5A),
       ([0x86, 0x5A], .stxZp 0x5A), ([0x8C, 0x34, 0x12], .styAbs 0x1234), ([0x8D, 0x34, 0x12], .staAbs 0x1234),
       ([0x8E, 0x34, 0x12], .stxAbs 0x1234), ([0x91, 0x5A], .staIzy 0x5A), ([0x94, 0x5A], .styZpx 0x5A),
       ([0x95, 0x5A], .staZpx 0x5A), ([0x96, 0x5A], .stxZpy 0x5A), ([0x99, 0x34, 0x12], .staAby 0x1234),
       ([0x9D, 0x34, 0x12], .staAbx 0x1234)] = true := by
  decide

/-- The words of spec/30_encoding R93 and R96 (incdec). -/
theorem test_decode_incdec :
    decodeAll
      [([0x88], .dey), ([0xC6, 0x5A], .decZp 0x5A), ([0xC8], .iny), ([0xCA], .dex),
       ([0xCE, 0x34, 0x12], .decAbs 0x1234), ([0xD6, 0x5A], .decZpx 0x5A), ([0xDE, 0x34, 0x12], .decAbx 0x1234),
       ([0xE6, 0x5A], .incZp 0x5A), ([0xE8], .inx), ([0xEE, 0x34, 0x12], .incAbs 0x1234),
       ([0xF6, 0x5A], .incZpx 0x5A), ([0xFE, 0x34, 0x12], .incAbx 0x1234)] = true := by
  decide

/-- The words of spec/30_encoding R93 and R96 (ldx_ldy). -/
theorem test_decode_ldx_ldy :
    decodeAll
      [([0xA0, 0x5A], .ldyImm 0x5A), ([0xA2, 0x5A], .ldxImm 0x5A), ([0xA4, 0x5A], .ldyZp 0x5A),
       ([0xA6, 0x5A], .ldxZp 0x5A), ([0xAC, 0x34, 0x12], .ldyAbs 0x1234), ([0xAE, 0x34, 0x12], .ldxAbs 0x1234),
       ([0xB4, 0x5A], .ldyZpx 0x5A), ([0xB6, 0x5A], .ldxZpy 0x5A), ([0xBC, 0x34, 0x12], .ldyAbx 0x1234),
       ([0xBE, 0x34, 0x12], .ldxAby 0x1234)] = true := by
  decide

/-- The words of spec/30_encoding R93 and R96 (lda). -/
theorem test_decode_lda :
    decodeAll
      [([0xA1, 0x5A], .ldaIzx 0x5A), ([0xA5, 0x5A], .ldaZp 0x5A), ([0xA9, 0x5A], .ldaImm 0x5A),
       ([0xAD, 0x34, 0x12], .ldaAbs 0x1234), ([0xB1, 0x5A], .ldaIzy 0x5A), ([0xB5, 0x5A], .ldaZpx 0x5A),
       ([0xB9, 0x34, 0x12], .ldaAby 0x1234), ([0xBD, 0x34, 0x12], .ldaAbx 0x1234)] = true := by
  decide

/-- The words of spec/30_encoding R93 and R96 (compare). -/
theorem test_decode_compare :
    decodeAll
      [([0xC0, 0x5A], .cpyImm 0x5A), ([0xC1, 0x5A], .cmpIzx 0x5A), ([0xC4, 0x5A], .cpyZp 0x5A),
       ([0xC5, 0x5A], .cmpZp 0x5A), ([0xC9, 0x5A], .cmpImm 0x5A), ([0xCC, 0x34, 0x12], .cpyAbs 0x1234),
       ([0xCD, 0x34, 0x12], .cmpAbs 0x1234), ([0xD1, 0x5A], .cmpIzy 0x5A), ([0xD5, 0x5A], .cmpZpx 0x5A),
       ([0xD9, 0x34, 0x12], .cmpAby 0x1234), ([0xDD, 0x34, 0x12], .cmpAbx 0x1234), ([0xE0, 0x5A], .cpxImm 0x5A),
       ([0xE4, 0x5A], .cpxZp 0x5A), ([0xEC, 0x34, 0x12], .cpxAbs 0x1234)] = true := by
  decide
/-! ### Well-formedness (spec/30_encoding R90, R91, R97) -/

/-- A whole instruction of each format. -/
theorem test_wellformed_accepts :
    (wellFormedBytes [0xEA] && wellFormedBytes [0x69, 0x50] && wellFormedBytes [0x6C, 0xFF, 0x12]) = true := by
  decide

/-- There is an opcode byte. -/
theorem test_wellformed_refuses_nothing : wellFormedBytes [] = false := by
  decide

/-- An opcode byte without a row is refused, whatever follows it. -/
theorem test_wellformed_refuses_unlisted : (wellFormedBytes [0x02] || wellFormedBytes [0x80, 0x00]) = false := by
  decide

/-- A missing operand byte is refused. -/
theorem test_wellformed_refuses_short : (wellFormedBytes [0x69] || wellFormedBytes [0x4C, 0x00]) = false := by
  decide

/-- A byte too many is refused. -/
theorem test_wellformed_refuses_long : (wellFormedBytes [0xEA, 0x00] || wellFormedBytes [0x69, 0x50, 0x00]) = false := by
  decide

/-- No operand value is reserved (R98). -/
theorem test_wellformed_instr : Instr.wellFormed (.ldaAbx 0xFFFF) = true := rfl

/-- The 105 bytes of R97 are the ones the decoder refuses by name. -/
theorem test_decode_unlisted :
    (unlistedOpcodes.length == 105 && unlistedOpcodes.all fun op => decode [op, 0, 0] == .illegalOpcode op) = true := by
  decide

/-- A missing operand byte is no other instruction (R91). -/
theorem test_decode_truncated : decode [0x4C, 0x00] = .truncated 0x4C := by
  decide

/-- The host's numbering: the opcode is bits 7..0, the operand bytes follow upwards, and bits above nbits are 0. -/
theorem test_decodeTableWord :
    (decodeTableWord 24 0x12346D == some (.adcAbs 0x1234) && decodeTableWord 8 0x69 == some (.adcImm 0x00)
      && decodeTableWord 8 0x02 == none) = true := by
  decide

/-- The placed instruction is the next one that runs: at PC, or at 0x1000 where PC is a device address. -/
theorem test_withFetchWord :
    stepGives (State.reset.withFetchWord 16 0x5AA9) (fun t => t.a == 0x5A && t.pc == 0x0002) = true
      ∧ stepGives ({ State.reset with pc := 0x9000, nmiPending := true }.withFetchWord 24 0x12344C)
          (fun t => t.pc == 0x1234) = true := by
  decide

/-! ### Refusals of the step (V169 to V171 of spec/95_test_vectors) -/

/-- What a step refuses with. -/
def stepRefuses (s : State) (r : Refusal) : Bool :=
  match step s with
  | .refused r' => r' == r
  | _ => false

/-- The opcode byte 0x02 (V169). -/
theorem test_illegal_v169 : stepRefuses (machine [(0x1000, 0x02)]) (.illegalOpcode 0x02 0x1000) = true := by
  decide

/-- The opcode byte 0xFF (V171). -/
theorem test_illegal_v171 : stepRefuses (machine [(0x1000, 0xFF)]) (.illegalOpcode 0xFF 0x1000) = true := by
  decide

/-! ### Interrupt and reset entry (E1 to E5 of spec/95_test_vectors) -/

/-- The vector bytes of E1, E2 and E4, with two NOPs. -/
def eventMachine : State :=
  { machine [(0x1234, 0xEA), (0xFEA9, 0xEA), (0xFFFA, 0xA9), (0xFFFB, 0xFE), (0xFFFC, 0x22), (0xFFFD, 0xFD),
      (0xFFFE, 0x72), (0xFFFF, 0xFF)] with
    pc := 0x1234 }

/-- E1: an IRQ is taken, and the pushed status has B = 0. -/
theorem test_irq_e1 :
    stepGives { eventMachine with p := flags true false true false false true, irqLine := true }
      (fun t => t.stored 0x01FF == 0x12 && t.stored 0x01FE == 0x34 && t.stored 0x01FD == 0xA9 && t.sp == 0xFC
        && t.p == flags true false true true false true && t.pc == 0xFF72 && t.irqLine) = true := by
  decide

/-- E2: an NMI is taken although I is 1, and S wraps. -/
theorem test_nmi_e2 :
    stepGives
      { eventMachine with p := flags false false false true true false, nmiPending := true, sp := 0x01, pc := 0x2000 }
      (fun t => t.stored 0x0101 == 0x20 && t.stored 0x0100 == 0x00 && t.stored 0x01FF == 0x26 && t.sp == 0xFE
        && t.p == flags false false false true true false && t.pc == 0xFEA9 && !t.nmiPending) = true := by
  decide

/-- E3: an IRQ is masked by I = 1, and stays requested. -/
theorem test_irq_masked_e3 :
    stepGives { eventMachine with p := flags false false false true false false, irqLine := true }
      (fun t => t.pc == 0x1235 && t.sp == 0xFF && t.irqLine) = true := by
  decide

/-- E4: a reset writes nothing, keeps A and D, and takes S down by three. -/
theorem test_reset_e4 :
    stepGives
      { eventMachine with
        p := flags false false true false false false, a := 0x55, sp := 0x10, nmiPending := true, resetPending := true }
      (fun t => t.pc == 0xFD22 && t.p == flags false false true true false false && t.sp == 0x0D && t.a == 0x55
        && t.mem == eventMachine.mem && !t.resetPending && !t.nmiPending) = true := by
  decide

/-- E5: the NMI comes before the IRQ, which its entry masks. -/
theorem test_priority_e5 :
    stepGives { eventMachine with nmiPending := true, irqLine := true }
      (fun t => t.pc == 0xFEA9 && t.p.i && t.stored 0x01FD == 0x20
        && stepGives t (fun u => u.pc == 0xFEAA && u.sp == 0xFC)) = true := by
  decide

/-- The schedule is read one boundary at a time (60_exceptions R242 to R244): the level is not latched, the edge is. -/
theorem test_schedule :
    stepGives
      { eventMachine with
        schedule := [{ irqLine := true, nmiEdge := true, resetRequest := false }, BoundaryInput.quiet] }
      (fun t => t.pc == 0xFEA9 && !t.nmiPending && t.irqLine
        && stepGives t (fun u => u.pc == 0xFEAA && !u.irqLine && u.schedule == [])) = true := by
  decide

/-! ### Memory (spec/20_memory) and the parameters -/

/-- A store to ROM is lost (R65), and the flags of a read-modify-write still follow its result (44_incdec R186). -/
theorem test_rom_write_is_lost :
    execGives (.decAbs 0xC000) (machine [(0xC000, 0x01)]) (fun t => t.stored 0xC000 == 0x01 && t.p.z) = true := by
  decide

/-- Colour RAM keeps four bits (R67), and eight with COLOR_RAM_WIDTH = 8. -/
theorem test_colour_ram :
    execGives (.staAbs 0x9400) { machine [] with a := 0xA7 } (fun t => t.stored 0x9400 == 0x07) = true
      ∧ execGives (.staAbs 0x97FF)
          { machine [] with a := 0xA7, params := { testParams with colorRamWidth := .eight } }
          (fun t => t.stored 0x97FF == 0xA7) = true := by
  decide

/-- A device write joins the history and stores nothing (R66). -/
theorem test_device_write :
    execGives (.staAbs 0x900F) { machine [] with a := 0x1B }
      (fun t => t.io == [.write 0x900F 0x1B] && t.mem == []) = true := by
  decide

/-- A device read and an empty read are free values: each is the opaque draw of its place in the run (R64, R66). -/
theorem test_free_reads :
    (State.reset.load 0x9110).value = Config.ioRead [] 0x9110 ∧ (State.reset.load 0x2000).value = Config.any8 0
      ∧ ((State.reset.load 0x2000).after.load 0x2000).value = Config.any8 1 :=
  ⟨rfl, rfl, rfl⟩

/-- A memory operation keeps the canonical form: writing the byte of an unlisted address removes the entry. -/
theorem test_memory_canonical :
    (Memory.write (Memory.write (Memory.write [] 5 7) 2 9) 5 0 == [(2, 9)]
      && Memory.wf (Memory.write (Memory.write [] 5 7) 2 9)
      && !Memory.wf [(5, 7), (2, 9)] && !Memory.wf [(5, 0)] && !Memory.wf [(65536, 1)]) = true := by
  decide

/-- The boundaries of the map of R60, on the unexpanded machine and with every block fitted. -/
theorem test_map_boundaries :
    ([(0x0000, Kind.ram), (0x03FF, .ram), (0x0400, .empty), (0x0FFF, .empty), (0x1000, .ram), (0x1DFF, .ram),
      (0x1E00, .ram), (0x1FFF, .ram), (0x2000, .empty), (0x7FFF, .empty), (0x8000, .rom), (0x8FFF, .rom),
      (0x9000, .device), (0x910F, .device), (0x9110, .device), (0x93FF, .device), (0x9400, .colour),
      (0x97FF, .colour), (0x9800, .device), (0x9C00, .device), (0x9FFF, .device), (0xA000, .empty), (0xBFFF, .empty),
      (0xC000, .rom), (0xDFFF, .rom), (0xE000, .rom), (0xFFFF, .rom)].all
        fun p => State.reset.kindAt p.1 == p.2)
      = true
    ∧ ([(0x0400, Kind.ram), (0x0FFF, .ram), (0x2000, .ram), (0x3FFF, .ram), (0x4000, .ram), (0x5FFF, .ram),
      (0x6000, .ram), (0x7FFF, .ram), (0xA000, .rom), (0xBFFF, .rom)].all fun p => (machine []).kindAt p.1 == p.2)
      = true := by
  decide

/-- The 36 Kernal entry points lie at 0xFF8A + 3k (R70). -/
theorem test_kernal_entries :
    kernalEntries.map (fun e => e.2.toNat) = (List.range 36).map (fun k => 0xFF8A + 3 * k) := by
  decide

/-- The NMOS reference (40_arith_logic R132: 0x99 + 0x01 gives A = 0x00 with Z = 0 on the real part). -/
theorem test_nmos_adc :
    execGives (.adcImm 0x01)
      { machine [] with
        a := 0x99, p := flags false false true false false false
        params := { testParams with decimalModel := .nmosReference } }
      (fun t => t.a == 0x00 && t.p.c && !t.p.z) = true := by
  decide

/-- The NMOS reference (40_arith_logic R142, R143: 0x00 - 0x01 with C = 1 gives A = 0x99, C = 0). -/
theorem test_nmos_sbc :
    execGives (.sbcImm 0x01)
      { machine [] with
        p := flags false false true false false true, params := { testParams with decimalModel := .nmosReference } }
      (fun t => t.a == 0x99 && !t.p.c && t.p.n) = true := by
  decide

/-- V108 of spec/95_test_vectors: JMP Indirect with JMP_INDIRECT_PAGE_WRAP false. -/
theorem test_jmp_no_wrap_v108 :
    execGives (.jmpInd 0x12FF)
      { machine [(0x1200, 0x80), (0x12FF, 0x34), (0x1300, 0x90)] with
        params := { testParams with jmpIndirectPageWrap := false } }
      (fun t => t.pc == 0x9034) = true := by
  decide

/-- Cycle counts of 70_reset_and_hazards R290 and R291: a page crossing and the three branch cases. -/
theorem test_cycles :
    (instrCycles (.ldaAbx 0x10FF) { machine [] with x := 0x01 } == 5
      && instrCycles (.ldaAbx 0x10FE) { machine [] with x := 0x01 } == 4
      && instrCycles (.bcc 0x10) (machine []) == 3 && instrCycles (.bcs 0x10) (machine []) == 2
      && instrCycles (.bcc 0x80) (machine []) == 4) = true := by
  decide

/-- Assembler lines of 30_encoding R113 and R114 (the source's LDA #10 is the byte 0x0A). -/
theorem test_assembly :
    (assemblyText 0x1000 (.ldaImm 0x0A) == "LDA #$0A" && assemblyText 0x1000 (.jmpInd 0x12FF) == "JMP ($12FF)"
      && assemblyText 0x1000 (.bcc 0x04) == "BCC $1006" && assemblyText 0x1000 .aslAcc == "ASL A"
      && assemblyText 0x1000 (.staIzy 0xFB) == "STA ($FB),Y") = true := by
  decide

/-! ### Witnesses: the hypotheses of every obligation can be met, and each clause at a boundary -/

/-- EncodeOfDecode. -/
theorem witness_EncodeOfDecode : decode [0x4C, 0xFF, 0xFF, 0x00] = .instr (.jmpAbs 0xFFFF) [0x00] := by
  decide

/-- WellFormedBytesAreDecoded, both ways. -/
theorem witness_WellFormedBytesAreDecoded :
    (wellFormedBytes [0xBE, 0xFF, 0xFF] = true ∧ decode [0xBE, 0xFF, 0xFF] = .instr (.ldxAby 0xFFFF) [])
      ∧ wellFormedBytes [0xFF] = false ∧ decode [0xFF] = .illegalOpcode 0xFF := by
  decide

/-- BranchOperandReachesTarget: the ends of the reach, and one address beyond each. -/
theorem witness_BranchOperandReachesTarget :
    branchOperand 0x1000 0x1081 = some 0x7F ∧ branchOperand 0x1000 0x0F82 = some 0x80
      ∧ branchOperand 0x1000 0x1082 = none ∧ branchOperand 0x1000 0x0F81 = none
      ∧ relativeTarget 0x1000 0x7F = 0x1081 ∧ relativeTarget 0x1000 0x80 = 0x0F82 := by
  decide

/-- CarryingIndexedAddressing: the last index that stays in the page, and the first that leaves it. -/
theorem witness_CarryingIndexedAddressing :
    pageCrossed (.ldaAbx (mkWord 0x12 0xFE)) { machine [] with x := 0x01 } = false
      ∧ pageCrossed (.ldaAbx (mkWord 0x12 0xFF)) { machine [] with x := 0x01 } = true
      ∧ ({ machine [] with x := 0x02 }.absoluteX (mkWord 0xFF 0xFF)).addr = 0x0001 := by
  decide

/-- AdcBinaryResult: D clear, a form, and the overflow boundary 0x7F + 0x00 + 1. -/
theorem witness_AdcBinaryResult :
    (machine []).p.d = false ∧ immForm .adcImm 0x69 0x00 ∈ adcForms 0x00 0x00
      ∧ (adcBinary 0x7F 0x00 (flags false false false false false true)).flags.v = true :=
  ⟨rfl, .head _, by decide⟩

/-- SbcBinaryResult: D clear, a form, and the borrow boundary 0x05 - 0x05. -/
theorem witness_SbcBinaryResult :
    (machine []).p.d = false ∧ immForm .sbcImm 0xE9 0x05 ∈ sbcForms 0x05 0x00
      ∧ (sbcBinary 0x05 0x05 (flags false false false false false true)).flags.c = true
      ∧ (sbcBinary 0x05 0x05 (flags false false false false false false)).flags.c = false :=
  ⟨rfl, .head _, by decide, by decide⟩

/-- A machine in decimal mode. -/
def decimalMachine (a : Byte) (model : DecimalModel) : State :=
  { machine [] with
    a := a, p := flags false false true false false false, params := { testParams with decimalModel := model } }

/-- AdcDecimalConservativeResult: two BCD bytes at the top of their range, and a digit of 10. -/
theorem witness_AdcDecimalConservativeResult :
    ((decimalMachine 0x99 .conservative).p.d = true
        ∧ (decimalMachine 0x99 .conservative).params.decimalModel = .conservative
        ∧ immForm .adcImm 0x69 0x99 ∈ adcForms 0x99 0x00)
      ∧ (validBcd 0x99 = true ∧ (adcConservative 0x99 0x99 (flags false false true false false true) 0).value = 0x99)
      ∧ validBcd 0x9A = false ∧ validBcd 0xA0 = false ∧ validBcd 0x00 = true :=
  ⟨⟨rfl, rfl, .head _⟩, ⟨by decide, by decide⟩, by decide, by decide, by decide⟩

/-- SbcDecimalConservativeResult: the decimal borrow, and an operand that is no BCD byte. -/
theorem witness_SbcDecimalConservativeResult :
    ((decimalMachine 0x00 .conservative).p.d = true
        ∧ (decimalMachine 0x00 .conservative).params.decimalModel = .conservative
        ∧ immForm .sbcImm 0xE9 0x99 ∈ sbcForms 0x99 0x00)
      ∧ (validBcd 0x00 = true ∧ (sbcConservative 0x00 0x99 (flags false false true false false false) 0).value = 0x00)
      ∧ validBcd 0x0A = false :=
  ⟨⟨rfl, rfl, .head _⟩, ⟨by decide, by decide⟩, by decide⟩

/-- NmosAgreesOnValidBcd. -/
theorem witness_NmosAgreesOnValidBcd :
    validBcd 0x58 = true ∧ validBcd 0x46 = true
      ∧ (adcNmos 0x58 0x46 (flags false false true false false true)).value = 0x05 := by
  decide

/-- DecimalNmosResult. -/
theorem witness_DecimalNmosResult :
    (decimalMachine 0x0F .nmosReference).p.d = true
      ∧ (decimalMachine 0x0F .nmosReference).params.decimalModel = .nmosReference
      ∧ immForm .adcImm 0x69 0x0F ∈ adcForms 0x0F 0x00 ∧ immForm .sbcImm 0xE9 0x0F ∈ sbcForms 0x0F 0x00 :=
  ⟨rfl, rfl, .head _, .head _⟩

/-- LogicResults, BitResult and LoadResults: a form of each instruction. -/
theorem witness_read_forms :
    immForm .andImm 0x29 0x3C ∈ andForms 0x3C 0x00 ∧ immForm .eorImm 0x49 0x3C ∈ eorForms 0x3C 0x00
      ∧ immForm .oraImm 0x09 0x3C ∈ oraForms 0x3C 0x00 ∧ (zpForm .bitZp 0x24 0x40).read ∈ bitForms 0x40 0x00
      ∧ immForm .ldaImm 0xA9 0x00 ∈ ldaForms 0x00 0x00 ∧ immForm .ldxImm 0xA2 0x00 ∈ ldxForms 0x00 0x00
      ∧ immForm .ldyImm 0xA0 0x00 ∈ ldyForms 0x00 0x00 :=
  ⟨.head _, .head _, .head _, .head _, .head _, .head _, .head _⟩

/-- CompareResults: each of its three instructions. -/
theorem witness_CompareResults :
    ((0x40 : Byte) = { machine [] with a := 0x40 }.a ∧ immForm .cmpImm 0xC9 0x40 ∈ cmpForms 0x40 0x00)
      ∧ ((0x10 : Byte) = { machine [] with x := 0x10 }.x ∧ immForm .cpxImm 0xE0 0x10 ∈ cpxForms 0x10 0x00)
      ∧ (0x90 : Byte) = { machine [] with y := 0x90 }.y ∧ immForm .cpyImm 0xC0 0x10 ∈ cpyForms 0x10 0x00 :=
  ⟨⟨rfl, .head _⟩, ⟨rfl, .head _⟩, rfl, .head _⟩

/-- ShiftResults, RotateResults and IncDecMemoryResults: a memory form of each instruction. -/
theorem witness_modify_forms :
    zpForm .aslZp 0x06 0xFF ∈ aslForms 0xFF 0x00 ∧ zpForm .lsrZp 0x46 0xFF ∈ lsrForms 0xFF 0x00
      ∧ zpForm .rolZp 0x26 0xFF ∈ rolForms 0xFF 0x00 ∧ zpForm .rorZp 0x66 0xFF ∈ rorForms 0xFF 0x00
      ∧ zpForm .decZp 0xC6 0xFF ∈ decForms 0xFF 0x00 ∧ zpForm .incZp 0xE6 0xFF ∈ incForms 0xFF 0x00 :=
  ⟨.head _, .head _, .head _, .head _, .head _, .head _⟩

/-- StoreResults: each of its three instructions. -/
theorem witness_StoreResults :
    ((0x2A : Byte) = { machine [] with a := 0x2A }.a ∧ zpForm .staZp 0x85 0x10 ∈ staForms 0x10 0x00)
      ∧ ((0x33 : Byte) = { machine [] with x := 0x33 }.x ∧ zpForm .stxZp 0x86 0x10 ∈ stxForms 0x10 0x00)
      ∧ (0x44 : Byte) = { machine [] with y := 0x44 }.y ∧ zpForm .styZp 0x84 0x10 ∈ styForms 0x10 0x00 :=
  ⟨⟨rfl, .head _⟩, ⟨rfl, .head _⟩, rfl, .head _⟩

/-- BranchResults: a branch taken backwards past 0x0000, and one not taken. -/
theorem witness_BranchResults :
    execGives (.bcc 0x80) { machine [] with pc := 0x0000 } (fun t => t.pc == 0xFF82) = true
      ∧ execGives (.bcs 0x80) { machine [] with pc := 0xFFFE } (fun t => t.pc == 0x0000) = true := by
  decide

/-- JumpResults: the last pointer for which the two settings agree, and the first for which they do not. -/
theorem witness_JumpResults :
    (0xFE : Byte) ≠ 0xFF ∧ mkWord 0x12 (0xFE + 1) = mkWord 0x12 0xFE + 1
      ∧ mkWord 0x12 (0xFF + 1) ≠ mkWord 0x12 0xFF + 1 := by
  decide

/-- PushResults: a full wrap of S. -/
theorem witness_PushResults :
    execGives .pha { machine [] with a := 0x7E, sp := 0x00 } (fun t => t.sp == 0xFF && t.stored 0x0100 == 0x7E) = true
      ∧ execGives .php (machine []) (fun t => t.stored 0x01FF == 0x30) = true := by
  decide

/-- RtsReturnsAfterJsr: a state after the JSR in which the caller's own byte, the third from S, was written, and RTS
returns from it. -/
theorem witness_RtsReturnsAfterJsr :
    ∃ t, exec (.jsr 0x2000) { machine [] with sp := 0xF0 } = .next t
      ∧ sameTop 2 t (t.store (stackAddr (t.sp + 3)) 0x99)
      ∧ execGives .rts (t.store (stackAddr (t.sp + 3)) 0x99) (fun w => w.pc == 0x1003 && w.sp == 0xF0) = true := by
  refine ⟨_, rfl, ⟨rfl, fun k h1 h2 => ?_⟩, by decide⟩
  obtain rfl | rfl : k = 1 ∨ k = 2 := by omega
  · decide
  · decide

/-- InterruptEntryEffect and RtiUndoesEntry: the two vectors, and the state right after an entry. -/
theorem witness_entry :
    ((0xFFFA : Word) = nmiVector ∧ (0xFFFE : Word) = irqVector)
      ∧ sameTop 3 (eventMachine.interruptEntry 0x1234 false irqVector)
          (eventMachine.interruptEntry 0x1234 false irqVector)
      ∧ execGives .rti (eventMachine.interruptEntry 0x1234 true irqVector) (fun w => w.pc == 0x1234) = true :=
  ⟨⟨rfl, rfl⟩, ⟨rfl, fun _ _ _ => rfl⟩, by decide⟩

/-- BreakBitTellsBrk: a boundary that takes an IRQ, and one that takes an NMI. -/
theorem witness_BreakBitTellsBrk :
    ({ eventMachine with irqLine := true }.sampleInputs.event = .irq
        ∧ ∃ t, step { eventMachine with irqLine := true } = .next t)
      ∧ { eventMachine with nmiPending := true }.sampleInputs.event = .nmi
      ∧ ∃ t, step { eventMachine with nmiPending := true } = .next t :=
  ⟨⟨by decide, _, rfl⟩, by decide, _, rfl⟩

/-- IrqTaken. -/
theorem witness_IrqTaken :
    let s := { eventMachine with irqLine := true }
    s.sampleInputs.resetPending = false ∧ s.sampleInputs.nmiPending = false ∧ s.sampleInputs.irqLine = true
      ∧ s.p.i = false := by
  decide

/-- NmiTaken, with I = 1 and an edge that the schedule brings. -/
theorem witness_NmiTaken :
    let s :=
      { eventMachine with
        p := flags false false false true false false
        schedule := [{ irqLine := true, nmiEdge := true, resetRequest := false }] }
    s.sampleInputs.resetPending = false ∧ s.sampleInputs.nmiPending = true := by
  decide

/-- ResetTaken, with everything pending at once. -/
theorem witness_ResetTaken :
    let s := { eventMachine with irqLine := true, nmiPending := true, resetPending := true }
    s.sampleInputs.resetPending = true ∧ s.sampleInputs.event = .reset := by
  decide

/-- InputsAreSampled: a schedule with an entry, and one that has run out. -/
theorem witness_InputsAreSampled :
    { machine [] with schedule := [BoundaryInput.quiet] }.schedule = BoundaryInput.quiet :: []
      ∧ (machine []).schedule = [] := by
  decide

/-- EntryMasksIrq: an IRQ entry with the request still standing. -/
theorem witness_EntryMasksIrq :
    let s := { eventMachine with irqLine := true }
    s.sampleInputs.event ≠ .instruction ∧ step s = .next s.irqEntry ∧ s.irqEntry.sampleInputs.irqLine = true :=
  ⟨by decide, rfl, rfl⟩

/-- StepRunsDecodedInstruction: an instruction that wraps from 0xFFFF to 0x0000. -/
theorem witness_StepRunsDecodedInstruction :
    let s := { machine [(0x0000, 0x5A), (0xFFFF, 0xA9)] with pc := 0xFFFF }
    s.sampleInputs.event = .instruction
      ∧ State.readBytes (Instr.ldaImm 0x5A).bytes s.sampleInputs.pc s.sampleInputs = (encode (.ldaImm 0x5A), s) := by
  decide

/-- StepRunsStoredInstruction: the same instruction, whose first byte lies in ROM and whose second in RAM. -/
theorem witness_StepRunsStoredInstruction :
    let s := { machine [(0x0000, 0x5A), (0xFFFF, 0xA9)] with pc := 0xFFFF }
    s.sampleInputs.event = .instruction
      ∧ ∀ k : Nat, k < (Instr.ldaImm 0x5A).bytes →
          (s.kindAt (s.pc + BitVec.ofNat 16 k) = .ram ∨ s.kindAt (s.pc + BitVec.ofNat 16 k) = .rom)
            ∧ s.stored (s.pc + BitVec.ofNat 16 k) = (encode (.ldaImm 0x5A)).getD k 0 := by
  decide

/-- StepRefusesExactlyUnlisted: a listed byte and an unlisted one. -/
theorem witness_StepRefusesExactlyUnlisted :
    (machine [(0x1000, 0xEA)]).sampleInputs.event = .instruction
      ∧ (machine [(0x1000, 0xEA)]).sampleInputs.peek 0x1000 ∉ unlistedOpcodes
      ∧ (machine [(0x1000, 0xFA)]).sampleInputs.peek 0x1000 ∈ unlistedOpcodes := by
  decide

/-- EveryInstructionCompletes: an instruction that does not write PC, and a branch each way. -/
theorem witness_EveryInstructionCompletes :
    (Instr.ldaImm 0x00).row.mnemonic ∉ writesPC ∧ (Instr.bcc 0x00).row.mode = .rel
      ∧ branchTaken (.bcc 0x04) (machine []) = true ∧ branchTaken (.bcs 0x04) (machine []) = false := by
  decide

/-- FinalStateStays: a jump to itself, and a branch to itself under a schedule with a masked request. -/
theorem witness_FinalStateStays :
    (machine [(0x1000, 0x4C), (0x1002, 0x10)]).isFinal = true
      ∧ { machine [(0x1000, 0x90), (0x1001, 0xFE)] with
          p := flags false false false true false false
          schedule := [{ irqLine := true, nmiEdge := false, resetRequest := false }] }.isFinal = true := by
  decide

/-- RegistersWrittenAsListed, FlagRowsHold, MemoryWrittenAsListed and InstructionsIgnoreInputs: an instruction that
completes, outside each list, and a zero-page store. -/
theorem witness_rules_over_instructions :
    (∃ t, exec (.stxZp 0xFF) (machine []) = .next t)
      ∧ (Instr.stxZp 0xFF).row.mnemonic ∉ writesA ++ writesX ++ writesY ++ writesS
      ∧ (Instr.stxZp 0xFF).row.mnemonic ∉ writesZ ++ writesC ++ writesI ++ writesD ++ writesV
      ∧ (Instr.stxZp 0xFF).row.mode = .zp ∧ Instr.aslAcc.row.mode = .acc ∧ Instr.pha.row.mnemonic ∈ pushes
      ∧ Instr.pla.row.mnemonic = .pla ∧ { testParams with plaSetsNZ := false }.plaSetsNZ = false
      ∧ Instr.lsrAcc.row.mnemonic = .lsr ∧ Instr.brk.row.mnemonic = .brk
      ∧ [Instr.clc, .sec, .cld, .sed, .cli, .sei, .clv].map (·.row.mnemonic) =
          [.clc, .sec, .cld, .sed, .cli, .sei, .clv]
      ∧ (Instr.ldaImm 0x00).row.mnemonic ∉ storesAtEa ++ pushes :=
  ⟨⟨_, rfl⟩, by decide, by decide, rfl, rfl, by decide, rfl, rfl, rfl, rfl, rfl, by decide⟩

/-- DecimalFlagScope: a compare. -/
theorem witness_DecimalFlagScope :
    (Instr.cmpImm 0x41).row.mnemonic ∉ [Mnemonic.adc, .sbc, .php, .brk, .plp, .rti, .cld, .sed]
      ∧ ∃ t, exec (.cmpImm 0x41) (machine []) = .next t :=
  ⟨by decide, _, rfl⟩

/-- ReadAndWriteByKind and ColourRamAndDevices: an address of each kind, and both widths of colour RAM. -/
theorem witness_kinds :
    (machine []).kindAt 0x03FF = .ram ∧ (machine []).kindAt 0xFFFF = .rom ∧ State.reset.kindAt 0x0400 = .empty
      ∧ ((machine []).kindAt 0x9400 = .colour ∧ (machine []).params.colorRamWidth = .four)
      ∧ { testParams with colorRamWidth := .eight }.colorRamWidth = .eight ∧ (machine []).kindAt 0x9FFF = .device := by
  decide

/-- AddressMapKinds: the first and the last address of each clause. -/
theorem witness_AddressMapKinds :
    ([(0x0000, 0x03FF), (0x1000, 0x1FFF), (0x0400, 0x0FFF), (0x2000, 0x3FFF), (0x4000, 0x5FFF), (0x6000, 0x7FFF),
      (0x8000, 0x8FFF), (0x9000, 0x93FF), (0x9400, 0x97FF), (0x9800, 0x9FFF), (0xA000, 0xBFFF),
      (0xC000, 0xFFFF)].all fun r : Word × Word => (machine []).kindAt r.1 == (machine []).kindAt r.2) = true := by
  decide

/-- AddressMapKinds: each fitting of a three-way block, at the block's first and last address. -/
theorem witness_AddressMapKinds_fittings :
    ([(FitAny.ram, Kind.ram), (.rom, .rom), (.empty, .empty)].all fun f : FitAny × Kind =>
      let s :=
        { machine [] with params := { testParams with block2000 := f.1, block4000 := f.1, block6000 := f.1 } }
      [0x2000, 0x3FFF, 0x4000, 0x5FFF, 0x6000, 0x7FFF].all fun a : Word => s.kindAt a == f.2) = true := by
  decide

/-- StepKeepsInvariant: a state with a byte of each storing kind listed, and a step from it. -/
theorem witness_StepKeepsInvariant :
    ((machine [(0x0010, 0x01), (0x1000, 0xE6), (0x1001, 0x10), (0x9400, 0x0F), (0xC000, 0x99)]).mem.wf = true
        ∧ (machine [(0x0010, 0x01), (0x1000, 0xE6), (0x1001, 0x10), (0x9400, 0x0F), (0xC000, 0x99)]).mem.all
            (cellHeld testParams) = true)
      ∧ stepGives (machine [(0x0010, 0x01), (0x1000, 0xE6), (0x1001, 0x10)]) (fun t => t.stored 0x0010 == 0x02)
        = true := by
  decide

/-- RunKeepsRomAndParameters: a run of two steps, and an address that is neither RAM nor colour RAM. -/
theorem witness_RunKeepsRomAndParameters :
    (∃ t, Sys2Proof.core.run 2 (machine [(0x1000, 0xEA), (0x1001, 0xEA)]) = .next t)
      ∧ (machine []).kindAt 0xC000 ≠ .ram ∧ (machine []).kindAt 0xC000 ≠ .colour :=
  ⟨⟨_, rfl⟩, by decide, by decide⟩

/-- CycleCounts: a read that leaves the page (0x10FF + 1) and one that does not, a store, a read-modify-write
instruction, and an instruction without an index. -/
theorem witness_CycleCounts :
    let s := { machine [] with x := 0x01 }
    (leavesPage (.ldaAbx 0x10FF) s = true ∧ instrCycles (.ldaAbx 0x10FF) s = 5)
      ∧ (leavesPage (.ldaAbx 0x10FE) s = false ∧ instrCycles (.ldaAbx 0x10FE) s = 4)
      ∧ ((Instr.staIzy 0x00).row.mode = .izy ∧ (Instr.staIzy 0x00).row.mnemonic = .sta)
      ∧ ((Instr.incAbx 0x10FE).row.mode = .abx ∧ (Instr.incAbx 0x10FE).row.mnemonic ∈ modifies)
      ∧ (Instr.bne 0x00).row.mode = .rel ∧ (Instr.pha.row.mode ≠ .rel ∧ Instr.pha.row.mode = .imp) := by
  decide

/-- InstructionRunsWithoutEvent: vector E3, a masked request that stays while the instruction at 0x1234 executes
(60_exceptions R242, R243), and the same boundary with I = 0, which takes the IRQ. -/
theorem witness_InstructionRunsWithoutEvent :
    let s :=
      { machine [(0x1234, 0xEA)] with
        pc := 0x1234
        irqLine := true
        p := flags false false false true false false }
    (s.sampleInputs.resetPending = false ∧ s.sampleInputs.nmiPending = false ∧ s.p.i = true)
      ∧ State.readBytes Instr.nop.bytes s.sampleInputs.pc s.sampleInputs = (encode .nop, s)
      ∧ stepGives s (fun t => t.pc == 0x1235 && t.sp == 0xFF && t.irqLine) = true
      ∧ { s with p := flags false false false false false false }.sampleInputs.event = .irq := by
  decide

end Sys2Proof.Tests
end

section
/-! PROOF. An instruction's meaning split into its mnemonic's operation and its addressing mode's operand: 56 operations
over 13 modes in place of 151 rows. `exec_eq_meaning` ties the split to exec. -/

namespace Sys2Proof.Machine

/-- The operand word `{b2, b1}` of an instruction (30_encoding R90). -/
def operandWord (i : Instr) : Word := mkWord (i.operandBytes.getD 1 0) (i.operandBytes.getD 0 0)

/-- The effective address by the addressing mode (30_encoding R103 to R110). -/
def effectiveAddr (i : Instr) (s : State) : Located :=
  let b1 := i.operandBytes.getD 0 0
  match i.row.mode with
  | .zp => s.zeroPage b1
  | .zpx => s.zeroPageX b1
  | .zpy => s.zeroPageY b1
  | .abx => s.absoluteX (operandWord i)
  | .aby => s.absoluteY (operandWord i)
  | .izx => s.indirectX b1
  | .izy => s.indirectY b1
  | _ => s.absolute (operandWord i)

/-- The operand of a reading instruction (30_encoding R102; 20_memory R54). -/
def operand (i : Instr) (s : State) : Loaded :=
  match i.row.mode with
  | .imm => s.immediate (i.operandBytes.getD 0 0)
  | _ => (effectiveAddr i s).load

/-- The byte that a read-modify-write instruction reads (41_shift_rotate R150). -/
def modifiedByte (i : Instr) (s : State) : Byte :=
  if i.row.mode = .acc then s.a else s.peek (effectiveAddr i s).addr

/-- A read-modify-write of A or of the byte at the effective address (41_shift_rotate R150; 44_incdec R185). -/
def modifyOperand (i : Instr) (s : State) (f : Byte → Flags → Alu) : State :=
  if i.row.mode = .acc then s.modifyA f else (effectiveAddr i s).modify f

/-- The two forms of JMP (45_jump_sub R196, R197). -/
def jumpOperand (i : Instr) (s : State) : State :=
  if i.row.mode = .ind then s.jumpIndirect (operandWord i) else s.jump (operandWord i)

/-- The state that an instruction leaves: its mnemonic's operation, applied to its addressing mode's operand. -/
def meaning (i : Instr) (s : State) : State :=
  let u := s.advance (BitVec.ofNat 16 i.bytes)
  match i.row.mnemonic with
  | .adc => adc (operand i u)
  | .and => andA (operand i u)
  | .asl => modifyOperand i u aslResult
  | .bcc | .bcs | .beq | .bmi | .bne | .bpl | .bvc | .bvs => s.branch (branchTaken i s) (i.operandBytes.getD 0 0)
  | .bit => bit (operand i u)
  | .brk => s.interruptEntry (s.pc + 2) true irqVector
  | .clc => u.setFlags { s.p with c := false }
  | .cld => u.setFlags { s.p with d := false }
  | .cli => u.setFlags { s.p with i := false }
  | .clv => u.setFlags { s.p with v := false }
  | .cmp => compareA (operand i u)
  | .cpx => compareX (operand i u)
  | .cpy => compareY (operand i u)
  | .dec => modifyOperand i u decResult
  | .dex => u.loadX (s.x - 1)
  | .dey => u.loadY (s.y - 1)
  | .eor => eorA (operand i u)
  | .inc => modifyOperand i u incResult
  | .inx => u.loadX (s.x + 1)
  | .iny => u.loadY (s.y + 1)
  | .jmp => jumpOperand i s
  | .jsr => (s.pushWord (s.pc + 2)).jump (operandWord i)
  | .lda => lda (operand i u)
  | .ldx => ldx (operand i u)
  | .ldy => ldy (operand i u)
  | .lsr => modifyOperand i u lsrResult
  | .nop => u
  | .ora => oraA (operand i u)
  | .pha => u.push s.a
  | .php => u.push (s.p.pack true)
  | .pla => u.pullA
  | .plp => u.pullP
  | .rol => modifyOperand i u rolResult
  | .ror => modifyOperand i u rorResult
  | .rti => s.returnFromInterrupt
  | .rts => s.returnFromSubroutine
  | .sbc => sbc (operand i u)
  | .sec => u.setFlags { s.p with c := true }
  | .sed => u.setFlags { s.p with d := true }
  | .sei => u.setFlags { s.p with i := true }
  | .sta => (effectiveAddr i u).store s.a
  | .stx => (effectiveAddr i u).store s.x
  | .sty => (effectiveAddr i u).store s.y
  | .tax => u.loadX s.a
  | .tay => u.loadY s.a
  | .tsx => u.loadX s.sp
  | .txa => u.loadA s.x
  | .txs => { u with sp := s.x }
  | .tya => u.loadA s.y

/-- The split, row by row: both sides are the same up to an operand word put together from its two bytes. -/
theorem exec_eq_meaning (i : Instr) (s : State) : exec i s = .next (meaning i s) := by
  cases i <;>
    simp only [meaning, operand, modifyOperand, jumpOperand, effectiveAddr, operandWord, Instr.row,
      Instr.operandBytes, Instr.bytes, Mode.bytes, List.getD_cons_zero, List.getD_cons_succ,
      mkWord_hiByte_loByte] <;> rfl

/-- Inversion of exec: the one state an instruction can answer. -/
theorem eq_meaning_of_exec {i : Instr} {s t : State} (h : exec i s = .next t) : t = meaning i s := by
  rw [exec_eq_meaning] at h
  exact (Host.Outcome.next.inj h).symm

/-- The relative mode is the branches' alone (42_branch R160). -/
theorem meaning_of_rel {i : Instr} (s : State) (h : i.row.mode = .rel) :
    meaning i s = s.branch (branchTaken i s) (i.operandBytes.getD 0 0) := by
  cases i
  case bcc | bcs | beq | bmi | bne | bpl | bvc | bvs => rfl
  all_goals cases h

end Sys2Proof.Machine
end

section
/-! PROOF. What the operations of a meaning leave unchanged. An operation on a fetched operand is written with the
operations of State, whose fields the @[simp] lemmas of Laws/State know. -/

namespace Sys2Proof.Machine

/-! ### Operations on a fetched operand -/

@[simp] theorem adc_eq (l : Loaded) :
    adc l =
      let r := adcResult l.after.params.decimalModel l.after.a l.value l.after.p l.after.draws
      { l.after with a := r.value, p := r.flags, draws := r.draws } := rfl
@[simp] theorem sbc_eq (l : Loaded) :
    sbc l =
      let r := sbcResult l.after.params.decimalModel l.after.a l.value l.after.p l.after.draws
      { l.after with a := r.value, p := r.flags, draws := r.draws } := rfl
@[simp] theorem andA_eq (l : Loaded) : andA l = l.after.loadA (l.after.a &&& l.value) := rfl
@[simp] theorem eorA_eq (l : Loaded) : eorA l = l.after.loadA (l.after.a ^^^ l.value) := rfl
@[simp] theorem oraA_eq (l : Loaded) : oraA l = l.after.loadA (l.after.a ||| l.value) := rfl
@[simp] theorem lda_eq (l : Loaded) : lda l = l.after.loadA l.value := rfl
@[simp] theorem ldx_eq (l : Loaded) : ldx l = l.after.loadX l.value := rfl
@[simp] theorem ldy_eq (l : Loaded) : ldy l = l.after.loadY l.value := rfl
@[simp] theorem bit_eq (l : Loaded) : bit l = l.after.setFlags (l.after.p.bitTest l.after.a l.value) := rfl
@[simp] theorem compareA_eq (l : Loaded) : compareA l = l.after.setFlags (l.after.p.compare l.after.a l.value) := rfl
@[simp] theorem compareX_eq (l : Loaded) : compareX l = l.after.setFlags (l.after.p.compare l.after.x l.value) := rfl
@[simp] theorem compareY_eq (l : Loaded) : compareY l = l.after.setFlags (l.after.p.compare l.after.y l.value) := rfl
@[simp] theorem Located.store_eq (l : Located) (v : Byte) : l.store v = l.after.store l.addr v := rfl

/-- No way to add writes I or D: binary, conservative or NMOS (40_arith_logic R131, R132, R143). -/
@[simp] theorem adcResult_keeps (model : DecimalModel) (a m : Byte) (p : Flags) (k : Nat) :
    (adcResult model a m p k).flags.i = p.i ∧ (adcResult model a m p k).flags.d = p.d := by
  cases hd : p.d
  case false => simp [adcResult, adcBinary, hd]
  case true =>
    cases model
    case conservative =>
      cases hv : validBcd a && validBcd m
      case false => simp [adcResult, adcConservative, decimalInvalid, hd, hv]
      case true => simp [adcResult, adcConservative, decimalValid, hd, hv]
    case nmosReference => simp [adcResult, adcNmos, hd]

/-- No way to subtract writes I or D (40_arith_logic R141 to R143). -/
@[simp] theorem sbcResult_keeps (model : DecimalModel) (a m : Byte) (p : Flags) (k : Nat) :
    (sbcResult model a m p k).flags.i = p.i ∧ (sbcResult model a m p k).flags.d = p.d := by
  cases hd : p.d
  case false => simp [sbcResult, sbcBinary, hd]
  case true =>
    cases model
    case conservative =>
      cases hv : validBcd a && validBcd m
      case false => simp [sbcResult, sbcConservative, decimalInvalid, hd, hv]
      case true => simp [sbcResult, sbcConservative, decimalValid, hd, hv]
    case nmosReference => simp [sbcResult, sbcNmos, sbcBinary, hd]

/-! ### Reading the operand and the pointer: only the draw counter and the device history can change -/

@[simp] theorem effectiveAddr_after (i : Instr) (s : State) : (effectiveAddr i s).after = s := by
  unfold effectiveAddr
  split <;> simp

theorem operand_after (i : Instr) (s : State) :
    ∃ k io, (operand i s).after = { s with draws := k, io := io } := by
  unfold operand
  split
  · exact ⟨s.draws, s.io, rfl⟩
  · rw [Located.load_eq, effectiveAddr_after]
    exact ⟨s.drawsAfterRead _, s.ioAfterRead _, rfl⟩

theorem State.readPair_after (s : State) (low high : Word) :
    ∃ k io, (s.readPair low high).after = { s with draws := k, io := io } :=
  ⟨((s.afterRead low).afterRead high).draws, ((s.afterRead low).afterRead high).io, rfl⟩

theorem State.read16pw_after (s : State) (ptr : Word) :
    ∃ k io, (s.read16pw ptr).after = { s with draws := k, io := io } := by
  unfold State.read16pw
  split
  · exact s.readPair_after _ _
  · exact s.readPair_after _ _

@[simp] theorem operand_keeps (i : Instr) (s : State) :
    (operand i s).after.a = s.a ∧ (operand i s).after.x = s.x ∧ (operand i s).after.y = s.y
      ∧ (operand i s).after.sp = s.sp ∧ (operand i s).after.pc = s.pc ∧ (operand i s).after.p = s.p := by
  obtain ⟨k, io, h⟩ := operand_after i s
  simp [h]

/-! ### The operations with forms of their own -/

/-- A read-modify-write changes the flags, and A or a byte of memory. -/
theorem modifyOperand_frame (i : Instr) (s : State) (f : Byte → Flags → Alu) :
    ∃ a mem k io, (i.row.mode ≠ .acc → a = s.a) ∧ modifyOperand i s f =
      { s with a := a, p := (f (modifiedByte i s) s.p).flags, mem := mem, draws := k, io := io } := by
  by_cases h : i.row.mode = .acc
  · simp only [modifyOperand, modifiedByte, h, if_true]
    exact ⟨_, _, _, _, fun hn => absurd rfl hn, rfl⟩
  · simp only [modifyOperand, modifiedByte, h, if_false, Located.modify_eq, Located.load_eq, effectiveAddr_after]
    exact ⟨_, _, _, _, fun _ => rfl, rfl⟩

@[simp] theorem modifyOperand_keeps (i : Instr) (s : State) (f : Byte → Flags → Alu) :
    (modifyOperand i s f).x = s.x ∧ (modifyOperand i s f).y = s.y ∧ (modifyOperand i s f).sp = s.sp
      ∧ (modifyOperand i s f).pc = s.pc := by
  obtain ⟨a, mem, k, io, -, h⟩ := modifyOperand_frame i s f
  simp [h]

@[simp] theorem modifyOperand_p (i : Instr) (s : State) (f : Byte → Flags → Alu) :
    (modifyOperand i s f).p = (f (modifiedByte i s) s.p).flags := by
  obtain ⟨a, mem, k, io, -, h⟩ := modifyOperand_frame i s f
  simp [h]

@[simp] theorem modifyOperand_a {i : Instr} (hmode : i.row.mode ≠ .acc) (s : State) (f : Byte → Flags → Alu) :
    (modifyOperand i s f).a = s.a := by
  obtain ⟨a, mem, k, io, ha, h⟩ := modifyOperand_frame i s f
  simp [h, ha hmode]

/-- A jump changes PC, and the bus where it reads a pointer. -/
theorem jumpOperand_frame (i : Instr) (s : State) :
    ∃ pc k io, jumpOperand i s = { s with pc := pc, draws := k, io := io } := by
  unfold jumpOperand
  split
  · obtain ⟨k, io, h⟩ := s.read16pw_after (operandWord i)
    simp only [State.jumpIndirect, h]
    exact ⟨_, _, _, rfl⟩
  · exact ⟨operandWord i, s.draws, s.io, rfl⟩

@[simp] theorem jumpOperand_keeps (i : Instr) (s : State) :
    (jumpOperand i s).a = s.a ∧ (jumpOperand i s).x = s.x ∧ (jumpOperand i s).y = s.y
      ∧ (jumpOperand i s).sp = s.sp ∧ (jumpOperand i s).p = s.p := by
  obtain ⟨pc, k, io, h⟩ := jumpOperand_frame i s
  simp [h]

/-- `Branch(cond)` (42_branch R161) is a jump to one of two addresses. -/
@[simp] theorem State.branch_eq (s : State) (cond : Bool) (b1 : Byte) :
    s.branch cond b1 = s.jump (if cond then relativeTarget s.pc b1 else s.pc + 2) := by
  cases cond <;> rfl

/-! ### The stack and the entries -/

/-- PLA (47_stack_transfer R218): `PLA_SETS_NZ` decides about N and Z alone. -/
@[simp] theorem State.pullA_eq (s : State) :
    s.pullA =
      { s.pull.after with
        a := s.pull.value
        p :=
          { s.p with
            n := if s.params.plaSetsNZ then s.pull.value.msb else s.p.n
            z := if s.params.plaSetsNZ then decide (s.pull.value = 0) else s.p.z } } := by
  unfold State.pullA
  split <;> rfl

/-- PLP (47_stack_transfer R219). -/
@[simp] theorem State.pullP_eq (s : State) : s.pullP = s.pull.after.setFlags (Flags.unpack s.pull.value) := rfl

@[simp] theorem State.pushWord_keeps (s : State) (w : Word) :
    (s.pushWord w).a = s.a ∧ (s.pushWord w).x = s.x ∧ (s.pushWord w).y = s.y ∧ (s.pushWord w).p = s.p := by
  simp [State.pushWord]

@[simp] theorem State.interruptEntry_keeps (s : State) (ret : Word) (b : Bool) (vec : Word) :
    (s.interruptEntry ret b vec).a = s.a ∧ (s.interruptEntry ret b vec).x = s.x
      ∧ (s.interruptEntry ret b vec).y = s.y ∧ (s.interruptEntry ret b vec).p = { s.p with i := true } := by
  simp [State.interruptEntry, State.read16]

@[simp] theorem State.returnFromInterrupt_keeps (s : State) :
    s.returnFromInterrupt.a = s.a ∧ s.returnFromInterrupt.x = s.x ∧ s.returnFromInterrupt.y = s.y := by
  simp [State.returnFromInterrupt_eq]

@[simp] theorem State.returnFromSubroutine_keeps (s : State) :
    s.returnFromSubroutine.a = s.a ∧ s.returnFromSubroutine.x = s.x ∧ s.returnFromSubroutine.y = s.y
      ∧ s.returnFromSubroutine.p = s.p := by
  simp [State.returnFromSubroutine, State.pullWord_eq]

end Sys2Proof.Machine
end

section
/-! PROOF. The columns of 10_state R25, R36 and R37: an instruction outside a column's list leaves that part of the
state. Each proof names the mnemonics of the list, which the hypothesis excludes; every other operation leaves the
part. -/

namespace Sys2Proof.Machine

open Sys2Proof.Claims

section
variable {i : Instr} {s : State}

theorem meaning_pc (h : i.row.mnemonic ∉ writesPC) : (meaning i s).pc = s.pc + BitVec.ofNat 16 i.bytes := by
  cases hm : i.row.mnemonic
  case bcc | bcs | beq | bmi | bne | bpl | bvc | bvs | jmp | jsr | rts | rti | brk => simp [hm, writesPC] at h
  all_goals simp [meaning, hm]

theorem meaning_a (h : i.row.mnemonic ∉ writesA) (hmode : i.row.mode ≠ .acc) : (meaning i s).a = s.a := by
  cases hm : i.row.mnemonic
  case adc | and | eor | ora | sbc | lda | pla | txa | tya => simp [hm, writesA] at h
  all_goals simp [meaning, hm, hmode]

theorem meaning_x (h : i.row.mnemonic ∉ writesX) : (meaning i s).x = s.x := by
  cases hm : i.row.mnemonic
  case ldx | tax | tsx | inx | dex => simp [hm, writesX] at h
  all_goals simp [meaning, hm]

theorem meaning_y (h : i.row.mnemonic ∉ writesY) : (meaning i s).y = s.y := by
  cases hm : i.row.mnemonic
  case ldy | tay | iny | dey => simp [hm, writesY] at h
  all_goals simp [meaning, hm]

theorem meaning_sp (h : i.row.mnemonic ∉ writesS) : (meaning i s).sp = s.sp := by
  cases hm : i.row.mnemonic
  case txs | pha | php | pla | plp | jsr | rts | brk | rti => simp [hm, writesS] at h
  all_goals simp [meaning, hm]

theorem meaning_nz (h : i.row.mnemonic ∉ writesZ) : (meaning i s).p.n = s.p.n ∧ (meaning i s).p.z = s.p.z := by
  cases hm : i.row.mnemonic
  case adc | and | asl | bit | cmp | cpx | cpy | dec | dex | dey | eor | inc | inx | iny | lda | ldx | ldy | lsr | ora
      | rol | ror | sbc | tax | tay | tsx | txa | tya | pla | plp | rti => simp [hm, writesZ] at h
  all_goals simp [meaning, hm]

theorem meaning_nz_of_pla (hm : i.row.mnemonic = .pla) (hp : s.params.plaSetsNZ = false) :
    (meaning i s).p.n = s.p.n ∧ (meaning i s).p.z = s.p.z := by
  simp [meaning, hm, hp]

theorem meaning_c (h : i.row.mnemonic ∉ writesC) : (meaning i s).p.c = s.p.c := by
  cases hm : i.row.mnemonic
  case adc | asl | clc | cmp | cpx | cpy | lsr | rol | ror | sbc | sec | plp | rti => simp [hm, writesC] at h
  all_goals simp [meaning, hm] <;> rfl

theorem meaning_i (h : i.row.mnemonic ∉ writesI) : (meaning i s).p.i = s.p.i := by
  cases hm : i.row.mnemonic
  case brk | cli | sei | plp | rti => simp [hm, writesI] at h
  all_goals simp [meaning, hm] <;> rfl

theorem meaning_d (h : i.row.mnemonic ∉ writesD) : (meaning i s).p.d = s.p.d := by
  cases hm : i.row.mnemonic
  case cld | sed | plp | rti => simp [hm, writesD] at h
  all_goals simp [meaning, hm] <;> rfl

theorem meaning_v (h : i.row.mnemonic ∉ writesV) : (meaning i s).p.v = s.p.v := by
  cases hm : i.row.mnemonic
  case adc | bit | clv | sbc | plp | rti => simp [hm, writesV] at h
  all_goals simp [meaning, hm] <;> rfl

end

end Sys2Proof.Machine
end

section
/-! PROOF. Another D before an instruction is another D after it (10_state R31): each operation but those of ADC, SBC
and the six that store or write D commutes with setting D. -/

namespace Sys2Proof.Machine

/-- The state with another D. -/
def withDecimal (d : Bool) (s : State) : State := { s with p := { s.p with d := d } }

section
variable (i : Instr) (s : State) (d : Bool)

theorem effectiveAddr_withDecimal :
    effectiveAddr i (withDecimal d s) = { addr := (effectiveAddr i s).addr, after := withDecimal d s } := by
  have haddr : (effectiveAddr i (withDecimal d s)).addr = (effectiveAddr i s).addr := by
    unfold effectiveAddr
    split <;> rfl
  calc effectiveAddr i (withDecimal d s)
      = ⟨(effectiveAddr i (withDecimal d s)).addr, (effectiveAddr i (withDecimal d s)).after⟩ := rfl
    _ = ⟨(effectiveAddr i s).addr, withDecimal d s⟩ := by rw [haddr, effectiveAddr_after]

theorem operand_withDecimal :
    operand i (withDecimal d s) =
      { value := (operand i s).value, after := withDecimal d (operand i s).after } := by
  unfold operand
  split
  · rfl
  · rw [effectiveAddr_withDecimal]
    simp only [Located.load_eq, effectiveAddr_after]
    rfl

theorem modifyOperand_withDecimal (f : Byte → Flags → Alu)
    (hf : ∀ v p, f v { p with d := d } = { f v p with flags := { (f v p).flags with d := d } }) :
    modifyOperand i (withDecimal d s) f = withDecimal d (modifyOperand i s f) := by
  unfold modifyOperand
  split
  · simp only [State.modifyA, withDecimal, hf]
  · rw [effectiveAddr_withDecimal]
    simp only [Located.modify_eq, Located.load_eq, effectiveAddr_after, withDecimal, hf]
    rfl

theorem read16pw_withDecimal (ptr : Word) :
    (withDecimal d s).read16pw ptr =
      { addr := (s.read16pw ptr).addr, after := withDecimal d (s.read16pw ptr).after } := by
  have hp : (withDecimal d s).params = s.params := rfl
  unfold State.read16pw
  rw [hp]
  split <;> rfl

theorem jumpOperand_withDecimal : jumpOperand i (withDecimal d s) = withDecimal d (jumpOperand i s) := by
  unfold jumpOperand State.jumpIndirect
  rw [read16pw_withDecimal]
  split <;> rfl

theorem meaning_withDecimal (h : i.row.mnemonic ∉ [Mnemonic.adc, .sbc, .php, .brk, .plp, .rti, .cld, .sed]) :
    meaning i (withDecimal d s) = withDecimal d (meaning i s) := by
  have hadv : (withDecimal d s).advance (.ofNat 16 i.bytes) = withDecimal d (s.advance (.ofNat 16 i.bytes)) := rfl
  cases hm : i.row.mnemonic
  case adc | sbc | php | brk | plp | rti | cld | sed => simp [hm] at h
  case asl | lsr | rol | ror | inc | dec =>
    simp only [meaning, hm, hadv]
    exact modifyOperand_withDecimal i _ d _ fun _ _ => rfl
  case jmp =>
    simp only [meaning, hm]
    exact jumpOperand_withDecimal i s d
  all_goals
    simp only [meaning, hm, hadv, operand_withDecimal, effectiveAddr_withDecimal, effectiveAddr_after,
      State.branch_eq, State.pullA_eq, Located.store_eq] <;> rfl

end

end Sys2Proof.Machine
end

section
/-! PROOF. The obligations of 10_state. -/

namespace Sys2Proof.Claims

open Sys2Proof.Machine

/-- Settles O45: the meaning is the next state; PC by the columns of R25 and the two targets of a branch. -/
theorem everyInstructionCompletes : Obligations.EveryInstructionCompletes := by
  intro i s
  refine ⟨meaning i s, exec_eq_meaning i s, meaning_pc, fun hrel => ?_⟩
  rw [meaning_of_rel s hrel, State.branch_eq, State.jump_pc]

/-- Settles O47, one column of R37 at a time. -/
theorem registersWrittenAsListed : Obligations.RegistersWrittenAsListed := by
  intro i s t h
  obtain rfl := eq_meaning_of_exec h
  exact ⟨meaning_a, meaning_x, meaning_y, meaning_sp⟩

/-- Settles O48: the "no change" entries of R36 column by column, then its constants. -/
theorem flagRowsHold : Obligations.FlagRowsHold := by
  intro i s t h
  obtain rfl := eq_meaning_of_exec h
  refine ⟨meaning_nz, meaning_nz_of_pla, meaning_c, meaning_i, meaning_d, meaning_v, ?_⟩
  refine ⟨?lsr, ?brk, ?clc, ?sec, ?cld, ?sed, ?cli, ?sei, ?clv⟩ <;> intro hm
  case lsr => simp [meaning, hm, lsrResult]
  all_goals simp [meaning, hm]

/-- Settles O51: the meaning commutes with setting D. -/
theorem decimalFlagScope : Obligations.DecimalFlagScope := by
  intro i s t d hm h
  obtain rfl := eq_meaning_of_exec h
  rw [exec_eq_meaning]
  exact congrArg Host.Outcome.next (meaning_withDecimal i s d hm)

/-- Settles O57: the state is the draw's by definition, PC the word of its two vector bytes. -/
theorem powerOnState : Obligations.PowerOnState := by
  intro o
  exact ⟨rfl, rfl, rfl, rfl, mkWord_toNat _ _, rfl, rfl, rfl, rfl, rfl, rfl, rfl, rfl, rfl, rfl, rfl⟩

/-- Settles O58: the chosen draw lists no byte of memory. -/
theorem resetMeetsInvariant : Obligations.ResetMeetsInvariant :=
  ⟨⟨State.reset_memory_wf, rfl⟩, PowerOn.chosen, rfl⟩

end Sys2Proof.Claims
end

section
/-! PROOF. The bytes a read returns and a write leaves, by the kind of the address (20_memory R62 to R67). -/

namespace Sys2Proof.Machine

theorem State.peek_empty (s : State) {addr : Word} (h : s.kindAt addr = .empty) :
    s.peek addr = Config.any8 s.draws := by
  simp [State.peek, h]

theorem State.afterRead_empty (s : State) {addr : Word} (h : s.kindAt addr = .empty) :
    s.afterRead addr = { s with draws := s.draws + 1 } := by
  simp [State.afterRead, State.drawsAfterRead, State.ioAfterRead, h]

theorem State.peek_device (s : State) {addr : Word} (h : s.kindAt addr = .device) :
    s.peek addr = Config.ioRead s.io addr := by
  simp [State.peek, h]

theorem State.afterRead_device (s : State) {addr : Word} (h : s.kindAt addr = .device) :
    s.afterRead addr = { s with io := .read addr (s.peek addr) :: s.io } := by
  simp [State.afterRead, State.drawsAfterRead, State.ioAfterRead, h]

theorem State.peek_colour_four (s : State) {addr : Word} (h : s.kindAt addr = .colour)
    (hw : s.params.colorRamWidth = .four) :
    (s.peek addr).toNat = (Config.any4 s.draws).toNat * 16 + (s.stored addr).toNat % 16 := by
  have := (Config.any4 s.draws).isLt
  simp only [State.peek, h, hw, BitVec.toNat_ofNat]
  omega

theorem State.peek_colour_eight (s : State) {addr : Word} (h : s.kindAt addr = .colour)
    (hw : s.params.colorRamWidth = .eight) : s.peek addr = s.stored addr := by
  simp [State.peek, h, hw]

theorem State.afterRead_colour_four (s : State) {addr : Word} (h : s.kindAt addr = .colour)
    (hw : s.params.colorRamWidth = .four) : s.afterRead addr = { s with draws := s.draws + 1 } := by
  simp [State.afterRead, State.drawsAfterRead, State.ioAfterRead, h, hw]

theorem State.afterRead_colour_eight (s : State) {addr : Word} (h : s.kindAt addr = .colour)
    (hw : s.params.colorRamWidth = .eight) : s.afterRead addr = s := by
  simp [State.afterRead, State.drawsAfterRead, State.ioAfterRead, h, hw]

/-- Colour RAM stores as many bits as it has (20_memory R67). -/
theorem State.store_stored_colour (s : State) {addr : Word} (v : Byte) (h : s.kindAt addr = .colour) :
    (s.store addr v).stored addr = if s.params.colorRamWidth = .four then v &&& 0x0F else v := by
  rw [s.store_colour v h]
  exact Memory.read_write_same _ _ _

/-- ROM, devices and empty addresses keep their bytes under every write (20_memory R64 to R66). -/
theorem State.store_stored_lost (s : State) (addr : Word) (v : Byte) {b : Word} (hram : s.kindAt b ≠ .ram)
    (hcolour : s.kindAt b ≠ .colour) : (s.store addr v).stored b = s.stored b := by
  by_cases hb : b = addr
  · subst hb
    cases hk : s.kindAt b
    case ram => exact absurd hk hram
    case colour => exact absurd hk hcolour
    case rom => rw [s.store_rom v hk]
    case empty => rw [s.store_empty v hk]
    case device => rw [s.store_device v hk]; rfl
  · exact s.store_stored_other v hb

theorem toNat_and_lowNibble (v : Byte) : (v &&& 0x0F).toNat = v.toNat % 16 :=
  (BitVec.toNat_and v 0x0F).trans (Nat.and_two_pow_sub_one_eq_mod v.toNat 4)

end Sys2Proof.Machine
end

section
/-! PROOF. The boxes of the memory map as ranges of addresses (20_memory R60). -/

namespace Sys2Proof.Machine

/-- The boundary a box begins at (20_memory R60). -/
def Block.first : Block → Nat
  | .workingStorage => 0x0000
  | .expansion0400 => 0x0400
  | .userBasic => 0x1000
  | .screen => 0x1E00
  | .expansion2000 => 0x2000
  | .expansion4000 => 0x4000
  | .expansion6000 => 0x6000
  | .characterRom => 0x8000
  | .vicChip => 0x9000
  | .io0 => 0x9110
  | .colorRam => 0x9400
  | .io2 => 0x9800
  | .io3 => 0x9C00
  | .expansionA000 => 0xA000
  | .basicRom => 0xC000
  | .kernalRom => 0xE000

/-- The last address of a box, one less than the next box's boundary (20_memory R60). -/
def Block.last : Block → Nat
  | .workingStorage => 0x03FF
  | .expansion0400 => 0x0FFF
  | .userBasic => 0x1DFF
  | .screen => 0x1FFF
  | .expansion2000 => 0x3FFF
  | .expansion4000 => 0x5FFF
  | .expansion6000 => 0x7FFF
  | .characterRom => 0x8FFF
  | .vicChip => 0x910F
  | .io0 => 0x93FF
  | .colorRam => 0x97FF
  | .io2 => 0x9BFF
  | .io3 => 0x9FFF
  | .expansionA000 => 0xBFFF
  | .basicRom => 0xDFFF
  | .kernalRom => 0xFFFF

/-- The tests of `blockAt` for the boxes below an address's own fail, and its own succeeds. -/
theorem blockAt_eq {addr : Word} (b : Block) (h : b.first ≤ addr.toNat ∧ addr.toNat ≤ b.last) : blockAt addr = b := by
  obtain ⟨hfirst, hlast⟩ := h
  cases b <;> simp only [Block.first, Block.last] at hfirst hlast <;> grind [blockAt]

theorem State.kindAt_eq (s : State) {addr : Word} (b : Block) (h : b.first ≤ addr.toNat ∧ addr.toNat ≤ b.last) :
    s.kindAt addr = kindOf s.params b :=
  congrArg (kindOf s.params) (blockAt_eq b h)

/-- Two adjacent boxes of one kind. -/
theorem State.kindAt_eq_of_adjacent (s : State) {addr : Word} (b c : Block) (hadj : c.first = b.last + 1)
    (hkind : kindOf s.params c = kindOf s.params b) (h : b.first ≤ addr.toNat ∧ addr.toNat ≤ c.last) :
    s.kindAt addr = kindOf s.params b := by
  rcases Nat.lt_or_ge b.last addr.toNat with hc | hb
  · exact (s.kindAt_eq c ⟨hadj ▸ hc, h.2⟩).trans hkind
  · exact s.kindAt_eq b ⟨h.1, hb⟩

theorem FitRam.kind_eq (f : FitRam) : FitRam.kind f = if f = .ram then .ram else .empty := by
  cases f <;> rfl

theorem FitAny.kind_eq (f : FitAny) :
    FitAny.kind f = if f = .ram then .ram else if f = .rom then .rom else .empty := by
  cases f <;> rfl

theorem FitRom.kind_eq (f : FitRom) : FitRom.kind f = if f = .rom then .rom else .empty := by
  cases f <;> rfl

end Sys2Proof.Machine
end

section
/-! PROOF. What can happen to the memory: it changes by writes through `State.memAfterWrite` alone, at addresses that an
instruction or an entry names. `WritesOnly` says so of two states, and every claim about memory is read off it. -/

namespace Sys2Proof.Machine

open Sys2Proof.Claims

/-- The memory of the second state is that of the first after some writes, each at an allowed address; the parameters
are the same. -/
inductive WritesOnly (allowed : Word → Prop) (s : State) : State → Prop
  | none {t : State} (hmem : t.mem = s.mem) (hparams : t.params = s.params) : WritesOnly allowed s t
  | write {t u : State} {addr : Word} {v : Byte} (before : WritesOnly allowed s t) (ha : allowed addr)
      (hmem : u.mem = t.memAfterWrite addr v) (hparams : u.params = t.params) : WritesOnly allowed s u

namespace WritesOnly

variable {allowed allowed' : Word → Prop} {s t u : State}

theorem trans (h : WritesOnly allowed s t) (h' : WritesOnly allowed t u) : WritesOnly allowed s u := by
  induction h' with
  | none hmem hparams =>
    cases h with
    | none hm hp => exact .none (hmem.trans hm) (hparams.trans hp)
    | write before ha hm hp => exact .write before ha (hmem.trans hm) (hparams.trans hp)
  | write _ ha hmem hparams ih => exact .write ih ha hmem hparams

theorem mono (h : WritesOnly allowed s t) (hsub : ∀ addr, allowed addr → allowed' addr) : WritesOnly allowed' s t := by
  induction h with
  | none hmem hparams => exact .none hmem hparams
  | write _ ha hmem hparams ih => exact .write ih (hsub _ ha) hmem hparams

theorem anywhere (h : WritesOnly allowed s t) : WritesOnly (fun _ => True) s t := h.mono fun _ _ => trivial

theorem params (h : WritesOnly allowed s t) : t.params = s.params := by
  induction h with
  | none _ hparams => exact hparams
  | write _ _ _ hparams ih => exact hparams.trans ih

theorem kindAt (h : WritesOnly allowed s t) (addr : Word) : t.kindAt addr = s.kindAt addr :=
  congrArg (kindOf · (blockAt addr)) h.params

/-- An address that no write is allowed at keeps its byte (20_memory R54). -/
theorem stored_other (h : WritesOnly allowed s t) {addr : Word} (hn : ¬allowed addr) :
    t.stored addr = s.stored addr := by
  induction h with
  | none hmem _ => exact congrArg (Memory.read · addr.toNat) hmem
  | @write t u a v _ ha hmem _ ih =>
    have hne : addr ≠ a := fun e => hn (e ▸ ha)
    calc u.stored addr
        = (t.store a v).stored addr := congrArg (Memory.read · addr.toNat) hmem
      _ = t.stored addr := t.store_stored_other v hne
      _ = s.stored addr := ih

/-- ROM, devices and empty addresses lose what is written to them (20_memory R64 to R66). -/
theorem stored_lost (h : WritesOnly allowed s t) {addr : Word} (hram : s.kindAt addr ≠ .ram)
    (hcolour : s.kindAt addr ≠ .colour) : t.stored addr = s.stored addr := by
  induction h with
  | none hmem _ => exact congrArg (Memory.read · addr.toNat) hmem
  | @write t u a v before _ hmem _ ih =>
    have hkind := before.kindAt addr
    calc u.stored addr
        = (t.store a v).stored addr := congrArg (Memory.read · addr.toNat) hmem
      _ = t.stored addr := t.store_stored_lost a v (hkind ▸ hram) (hkind ▸ hcolour)
      _ = s.stored addr := ih

/-- The invariant speaks of the memory and the parameters alone, and each write keeps it. -/
theorem inv (h : WritesOnly allowed s t) (hs : s.Inv) : t.Inv := by
  induction h with
  | none hmem hparams => rwa [State.Inv, hmem, hparams]
  | @write t u a v _ _ hmem hparams ih =>
    have hstore : (t.store a v).Inv := t.store_inv a v ih
    rwa [State.Inv, hmem, hparams]

end WritesOnly

/-! ### The shared operations -/

/-- An address of the stack page that some value of S gives (10_state R26). -/
def onStack (addr : Word) : Prop := ∃ sp : Byte, addr = stackAddr sp

theorem onStack_range {addr : Word} (h : onStack addr) : 0x100 ≤ addr.toNat ∧ addr.toNat ≤ 0x1FF := by
  obtain ⟨sp, rfl⟩ := h
  have := sp.isLt
  rw [stackAddr_toNat]
  omega

theorem State.store_writes (s : State) (addr : Word) (v : Byte) : WritesOnly (· = addr) s (s.store addr v) :=
  .write (.none rfl rfl) rfl (State.store_mem s addr v) rfl

theorem State.push_writes (s : State) (v : Byte) : WritesOnly onStack s (s.push v) :=
  .write (.none rfl rfl) ⟨s.sp, rfl⟩ (s.push_mem v) rfl

theorem State.pushWord_writes (s : State) (w : Word) : WritesOnly onStack s (s.pushWord w) :=
  (s.push_writes (hiByte w)).trans (State.push_writes _ (loByte w))

/-- An entry (60_exceptions R246) writes by its three pushes alone; what follows them reads the vector. -/
theorem State.interruptEntry_writes (s : State) (ret : Word) (b : Bool) (vec : Word) :
    WritesOnly onStack s (s.interruptEntry ret b vec) :=
  ((s.pushWord_writes ret).trans (State.push_writes _ (s.p.pack b))).trans (.none rfl rfl)

theorem State.irqEntry_writes (s : State) : WritesOnly onStack s s.irqEntry := s.interruptEntry_writes _ _ _

theorem State.nmiEntry_writes (s : State) : WritesOnly onStack s s.nmiEntry := by
  have hlatch : WritesOnly onStack s { s with nmiPending := false } := .none rfl rfl
  exact hlatch.trans (State.interruptEntry_writes _ _ _ _)

/-- The reset entry only reads (60_exceptions R250). -/
theorem State.resetEntry_writes (s : State) : WritesOnly (fun _ => False) s s.resetEntry := by
  rw [State.resetEntry_eq]
  exact .none rfl rfl

/-- A read-modify-write (20_memory R54) is a read, which writes nothing, and one write at the same address. -/
theorem Located.modify_writes (l : Located) (f : Byte → Flags → Alu) :
    WritesOnly (· = l.addr) l.after (l.modify f) :=
  .trans (t := l.load.after) (.none rfl rfl) (.trans (State.store_writes _ l.addr _) (.none rfl rfl))

/-! ### Instructions -/

@[simp] theorem operand_keeps_mem (i : Instr) (s : State) :
    (operand i s).after.mem = s.mem ∧ (operand i s).after.params = s.params := by
  obtain ⟨k, io, h⟩ := operand_after i s
  simp [h]

@[simp] theorem jumpOperand_keeps_mem (i : Instr) (s : State) :
    (jumpOperand i s).mem = s.mem ∧ (jumpOperand i s).params = s.params := by
  obtain ⟨pc, k, io, h⟩ := jumpOperand_frame i s
  simp [h]

@[simp] theorem State.returnFromInterrupt_keeps_mem (s : State) :
    s.returnFromInterrupt.mem = s.mem ∧ s.returnFromInterrupt.params = s.params := by
  simp [State.returnFromInterrupt_eq]

@[simp] theorem State.returnFromSubroutine_keeps_mem (s : State) :
    s.returnFromSubroutine.mem = s.mem ∧ s.returnFromSubroutine.params = s.params := by
  simp [State.returnFromSubroutine, State.pullWord_eq]

theorem modifyOperand_writes (i : Instr) (s : State) (f : Byte → Flags → Alu) :
    WritesOnly (fun addr => i.row.mode ≠ .acc ∧ addr = (effectiveAddr i s).addr) s (modifyOperand i s f) := by
  unfold modifyOperand
  split
  · exact .none rfl rfl
  · next hacc =>
    have h := (effectiveAddr i s).modify_writes f
    rw [effectiveAddr_after] at h
    exact h.mono fun _ e => ⟨hacc, e⟩

/-- No addressing mode with a data address depends on PC. -/
theorem effectiveAddr_advance (i : Instr) (s : State) (n : Word) :
    (effectiveAddr i (s.advance n)).addr = (effectiveAddr i s).addr := by
  unfold effectiveAddr
  split <;> rfl

/-- The addresses that an instruction may write (20_memory R54): its effective address, or the stack. -/
def mayWrite (i : Instr) (s : State) (addr : Word) : Prop :=
  (i.row.mnemonic ∈ storesAtEa ∧ i.row.mode ≠ .acc ∧ addr = (effectiveAddr i s).addr)
    ∨ (i.row.mnemonic ∈ pushes ∧ onStack addr)

theorem mode_ne_acc_of_store {i : Instr} (h : i.row.mnemonic ∈ [Mnemonic.sta, .stx, .sty]) : i.row.mode ≠ .acc := by
  cases i
  case aslAcc | lsrAcc | rolAcc | rorAcc => simp [Instr.row] at h
  all_goals exact fun e => by cases e

/-- What an instruction writes, by its mnemonic: at the effective address, on the stack, or nothing. -/
theorem meaning_writes (i : Instr) (s : State) : WritesOnly (mayWrite i s) s (meaning i s) := by
  have hadv : WritesOnly (mayWrite i s) s (s.advance (.ofNat 16 i.bytes)) := .none rfl rfl
  cases hm : i.row.mnemonic
  case sta | stx | sty =>
    simp only [meaning, hm, Located.store_eq, effectiveAddr_after, effectiveAddr_advance]
    refine hadv.trans ((State.store_writes _ _ _).mono fun addr e => .inl ⟨?_, ?_, e⟩)
    · simp [hm, storesAtEa]
    · exact mode_ne_acc_of_store (by simp [hm])
  case asl | lsr | rol | ror | dec | inc =>
    simp only [meaning, hm]
    refine hadv.trans ((modifyOperand_writes i _ _).mono fun addr e => .inl ⟨?_, ?_⟩)
    · simp [hm, storesAtEa]
    · rwa [effectiveAddr_advance] at e
  case pha | php =>
    simp only [meaning, hm]
    exact hadv.trans ((State.push_writes _ _).mono fun addr e => .inr ⟨by simp [hm, pushes], e⟩)
  case jsr =>
    simp only [meaning, hm]
    have h : WritesOnly onStack s ((s.pushWord (s.pc + 2)).jump (operandWord i)) :=
      (s.pushWord_writes _).trans (.none rfl rfl)
    exact h.mono fun addr e => .inr ⟨by simp [hm, pushes], e⟩
  case brk =>
    simp only [meaning, hm]
    exact (s.interruptEntry_writes _ _ _).mono fun addr e => .inr ⟨by simp [hm, pushes], e⟩
  all_goals exact .none (by simp [meaning, hm]) (by simp [meaning, hm])

/-! ### One step, and a run -/

theorem State.sampleInputs_keeps_mem (s : State) :
    s.sampleInputs.mem = s.mem ∧ s.sampleInputs.params = s.params := by
  rcases s.sampleInputs_cases with ⟨_, h⟩ | ⟨b, rest, _, h⟩ <;> simp [h]

theorem State.readBytes_keeps_mem (n : Nat) (addr : Word) (s : State) :
    (State.readBytes n addr s).2.mem = s.mem ∧ (State.readBytes n addr s).2.params = s.params := by
  induction n generalizing addr s with
  | zero => exact ⟨rfl, rfl⟩
  | succ n ih => exact ih (addr + 1) (s.load addr).after

theorem State.fetch_keeps_mem {s after : State} {i : Instr} (h : s.fetch = .instr i after) :
    after.mem = s.mem ∧ after.params = s.params := by
  simp only [State.fetch] at h
  split at h
  · cases h
  · split at h
    · cases h
      exact State.readBytes_keeps_mem _ _ _
    · cases h

/-- Everything a step can do to the memory, whichever of the four events it takes (60_exceptions R242). -/
theorem step_writes {s t : State} (h : step s = .next t) : WritesOnly (fun _ => True) s t := by
  obtain ⟨hmem, hparams⟩ := s.sampleInputs_keeps_mem
  have hsample : WritesOnly (fun _ => True) s s.sampleInputs := .none hmem hparams
  refine hsample.trans ?_
  unfold step at h
  cases hev : s.sampleInputs.event <;> simp only [hev] at h
  case reset => exact Host.Outcome.next.inj h ▸ s.sampleInputs.resetEntry_writes.anywhere
  case nmi => exact Host.Outcome.next.inj h ▸ s.sampleInputs.nmiEntry_writes.anywhere
  case irq => exact Host.Outcome.next.inj h ▸ s.sampleInputs.irqEntry_writes.anywhere
  case instruction =>
    cases hf : s.sampleInputs.fetch with
    | illegal op => simp [hf] at h
    | instr i after =>
      simp only [hf] at h
      obtain ⟨hm, hp⟩ := State.fetch_keeps_mem hf
      obtain rfl := eq_meaning_of_exec h
      exact .trans (.none hm hp) (meaning_writes i after).anywhere

theorem run_writes {n : Nat} {s t : State} (h : Sys2Proof.core.run n s = .next t) :
    WritesOnly (fun _ => True) s t := by
  induction n generalizing s with
  | zero => cases h; exact .none rfl rfl
  | succ n ih =>
    cases hstep : step s with
    | next u =>
      have hrun : Sys2Proof.core.run (n + 1) s = Sys2Proof.core.run n u := by
        simp only [Host.Core.run, Host.Check.core_step, hstep]
      exact (step_writes hstep).trans (ih (hrun ▸ h))
    | fault r => cases r
    | refused r =>
      simp only [Host.Core.run, Host.Check.core_step, hstep] at h
      cases h

/-! ### Where the listed instructions write -/

theorem not_mayWrite_of_unlisted {i : Instr} {s : State} (hs : i.row.mnemonic ∉ storesAtEa)
    (hp : i.row.mnemonic ∉ pushes) (addr : Word) : ¬mayWrite i s addr
  | .inl ⟨h, _⟩ => hs h
  | .inr ⟨h, _⟩ => hp h

theorem not_storesAtEa_of_pushes {m : Mnemonic} (h : m ∈ pushes) : m ∉ storesAtEa := by
  cases m
  case pha | php | jsr | brk => decide
  all_goals exact absurd h (by decide)

/-- The pushing instructions have no data address: they are Implied, and JSR is Absolute. -/
theorem mode_of_pushes {i : Instr} (h : i.row.mnemonic ∈ pushes) : i.row.mode = .imp ∨ i.row.mode = .abs := by
  cases i
  case pha | php | brk => exact .inl rfl
  case jsr => exact .inr rfl
  all_goals simp [Instr.row, pushes] at h

theorem effectiveAddr_zeroPage {i : Instr} (h : i.row.mode = .zp ∨ i.row.mode = .zpx ∨ i.row.mode = .zpy) (s : State) :
    (effectiveAddr i s).addr.toNat ≤ 0xFF := by
  have hz (z : Byte) : (zext16 z).toNat ≤ 0xFF := by
    have := z.isLt
    simp [zext16]
    omega
  rcases h with h | h | h <;> simp only [effectiveAddr, h] <;> exact hz _

end Sys2Proof.Machine
end

section
/-! PROOF. The obligations of 20_memory. -/

namespace Sys2Proof.Claims

open Sys2Proof.Machine

/-- Settles O55: a step changes the memory by writes alone, and each keeps the invariant. -/
theorem stepKeepsInvariant : Obligations.StepKeepsInvariant := by
  intro s t hinv h
  exact (step_writes h).inv hinv

/-- Settles O56: a run changes the memory by writes alone, which these addresses lose. -/
theorem runKeepsRomAndParameters : Obligations.RunKeepsRomAndParameters := by
  intro n s t h
  have hw := run_writes h
  exact ⟨hw.params, fun _ hram hcolour => hw.stored_lost hram hcolour⟩

/-- Settles O49: each clause says that an instruction may not write at an address. -/
theorem memoryWrittenAsListed : Obligations.MemoryWrittenAsListed := by
  intro i s t h
  obtain rfl := eq_meaning_of_exec h
  have hw := meaning_writes i s
  refine ⟨fun hs hp addr => hw.stored_other (not_mayWrite_of_unlisted hs hp addr), fun hacc addr => ?acc,
    fun hp addr hout => ?pushes, fun hzp addr hout => ?zeroPage⟩
  case acc =>
    refine hw.stored_other ?_
    rintro (⟨_, hne, _⟩ | ⟨hp, _⟩)
    · exact hne hacc
    · simpa [hacc] using mode_of_pushes hp
  case pushes =>
    refine hw.stored_other ?_
    rintro (⟨hs, _⟩ | ⟨_, hstack⟩)
    · exact not_storesAtEa_of_pushes hp hs
    · have := onStack_range hstack
      omega
  case zeroPage =>
    refine hw.stored_other ?_
    rintro (⟨_, _, rfl⟩ | ⟨hp, _⟩)
    · have := effectiveAddr_zeroPage hzp s
      omega
    · rcases mode_of_pushes hp with hm | hm <;> simp [hm] at hzp

/-- Settles O53, by the kind of the address and the width of colour RAM. -/
theorem colourRamAndDevices : Obligations.ColourRamAndDevices := by
  intro s addr v
  refine ⟨fun hk hw => ⟨?_, ?_⟩, fun hk hw => ⟨?_, s.afterRead_colour_eight hk hw⟩,
    fun hk => ⟨s.peek_device hk, ?_, ?_, fun _ => rfl, ?_⟩⟩
  · rw [(s.store addr v).peek_colour_four hk hw, s.store_stored_colour v hk, if_pos hw,
      toNat_and_lowNibble, State.store_draws, Nat.mod_mod]
  · rw [s.afterRead_colour_four hk hw]
  · rw [(s.store addr v).peek_colour_eight hk hw, s.store_stored_colour v hk, hw]
    rfl
  · rw [s.afterRead_device hk]
  · rw [s.store_device v hk]
  · rw [s.store_device v hk]
    exact fun _ => rfl

/-- Settles O54, one range of the map at a time: a box, or two adjacent boxes of one kind. -/
theorem addressMapKinds : Obligations.AddressMapKinds := by
  intro s addr a
  have htop : a ≤ 0xFFFF := Nat.le_of_lt_succ addr.isLt
  exact ⟨fun h => s.kindAt_eq .workingStorage ⟨Nat.zero_le a, h⟩,
    s.kindAt_eq_of_adjacent .userBasic .screen rfl rfl,
    fun h => (s.kindAt_eq .expansion0400 h).trans (FitRam.kind_eq _),
    fun h => (s.kindAt_eq .expansion2000 h).trans (FitAny.kind_eq _),
    fun h => (s.kindAt_eq .expansion4000 h).trans (FitAny.kind_eq _),
    fun h => (s.kindAt_eq .expansion6000 h).trans (FitAny.kind_eq _),
    s.kindAt_eq .characterRom,
    s.kindAt_eq_of_adjacent .vicChip .io0 rfl rfl,
    s.kindAt_eq .colorRam,
    s.kindAt_eq_of_adjacent .io2 .io3 rfl rfl,
    fun h => (s.kindAt_eq .expansionA000 h).trans (FitRom.kind_eq _),
    fun h => s.kindAt_eq_of_adjacent .basicRom .kernalRom rfl rfl ⟨h, htop⟩⟩

/-- Settles O52, by the kind of the address. -/
theorem readAndWriteByKind : Obligations.ReadAndWriteByKind := by
  intro s addr v
  refine ⟨fun hk => ⟨?_, ?_, s.afterRead_plain (.inl hk), s.peek_plain (.inl hk)⟩,
    fun b hb => s.store_stored_other v hb,
    fun hk => ⟨s.store_rom v hk, s.afterRead_plain (.inr hk), s.peek_plain (.inr hk)⟩,
    fun hk => ⟨s.store_empty v hk, s.peek_empty hk, ?_⟩⟩
  · rw [(s.store addr v).peek_plain (.inl hk), s.store_stored_ram v hk]
  · rw [s.store_ram v hk]
  · rw [(s.afterRead addr).peek_empty hk, s.afterRead_empty hk]

end Sys2Proof.Claims
end

section
/-! PROOF. The opcode table and the decoder: `instrOf` inverts the encoder on an opcode byte and its operand bytes
(30_encoding R90, R96), it depends on the operand bytes in the operand alone (R91), and the bytes without a row are
those of R97. `decode_eq_instr_iff` is the round trip in both directions, and `wellFormedBytes_iff` ties the spec's list
and columns to it. -/

namespace Sys2Proof

/-! ### Lengths -/

theorem Instr.bytes_bounds (i : Instr) : 1 ≤ i.bytes ∧ i.bytes ≤ 3 := by
  unfold Instr.bytes
  cases i.row.mode <;> decide

theorem Instr.operandBytes_length (i : Instr) : i.operandBytes.length + 1 = i.bytes := by
  cases i <;> rfl

theorem encode_length (i : Instr) : (encode i).length = i.bytes := i.operandBytes_length

/-- A row has at most two operand bytes, and those are the ones the decoder looks at. -/
theorem take_getD_pair {l : List Byte} {n : Nat} (h2 : n ≤ 2) (hl : n ≤ l.length) :
    [l.getD 0 0, l.getD 1 0].take n = l.take n := by
  match l, n with
  | _, 0 => rfl
  | b1 :: l, 1 => rfl
  | b1 :: b2 :: l, 2 => rfl

/-! ### The opcode table -/

/-- From a row to its opcode byte and back (30_encoding R96): the arm is found by evaluation, and an operand word is
put together again from its two bytes. -/
theorem instrOf_of_operandBytes {i : Instr} {b1 b2 : Byte} (h : i.operandBytes = [b1, b2].take (i.bytes - 1)) :
    instrOf i.row.opcode b1 b2 = some i := by
  cases i <;> cases h
  all_goals
    simp only [Instr.row]
    exact congrArg some (by simp only [mkWord_hiByte_loByte])

/-- Each arm of the table answers the instruction whose row has the arm's byte (30_encoding R96). -/
theorem eq_of_instrOf {op b1 b2 : Byte} {i : Instr} (h : instrOf op b1 b2 = some i) :
    op = i.row.opcode ∧ i.operandBytes = [b1, b2].take (i.bytes - 1) := by
  unfold instrOf at h
  split at h <;> cases h
  all_goals
    refine ⟨BitVec.eq_of_toNat_eq ‹_›, ?_⟩
    simp only [Instr.operandBytes, hiByte_mkWord, loByte_mkWord]
    rfl

theorem instrOf_opcode_bytes (i : Instr) (b1 b2 : Byte) :
    (instrOf i.row.opcode b1 b2).map Instr.bytes = some i.bytes := by
  cases i <;> simp only [Instr.row] <;> rfl

/-- The opcode byte alone decides whether there is a row and how long its instruction is (30_encoding R91). -/
theorem instrOf_map_bytes (op b1 b2 : Byte) : (instrOf op b1 b2).map Instr.bytes = opcodeBytes op := by
  cases h : instrOf op b1 b2 with
  | some i =>
    obtain ⟨rfl, _⟩ := eq_of_instrOf h
    exact (instrOf_opcode_bytes i 0 0).symm
  | none =>
    cases h0 : instrOf op 0 0 with
    | none => rw [opcodeBytes, h0]
    | some j =>
      obtain ⟨rfl, _⟩ := eq_of_instrOf h0
      simpa [h] using instrOf_opcode_bytes j b1 b2

theorem opcodeBytes_opcode (i : Instr) : opcodeBytes i.row.opcode = some i.bytes := instrOf_opcode_bytes i 0 0

/-! ### The list and the columns of the spec -/

theorem opcodeBytes_of_unlisted : ∀ op ∈ unlistedOpcodes, opcodeBytes op = none := by decide

theorem opcodeBytes_or_unlisted : ∀ op : Byte, opcodeBytes op = some (mapBytes op) ∨ op ∈ unlistedOpcodes := by
  decide

/-- The spec's own account of the opcode bytes agrees with the table (30_encoding R93, R97). -/
theorem opcodeBytes_eq_some_iff {op : Byte} {n : Nat} :
    opcodeBytes op = some n ↔ op ∉ unlistedOpcodes ∧ mapBytes op = n := by
  by_cases hop : op ∈ unlistedOpcodes
  · simp [opcodeBytes_of_unlisted op hop, hop]
  · simp [(opcodeBytes_or_unlisted op).resolve_right hop, hop]

theorem exists_instrOf_of_listed {op : Byte} (h : op ∉ unlistedOpcodes) (b1 b2 : Byte) :
    ∃ i, instrOf op b1 b2 = some i ∧ i.bytes = mapBytes op :=
  Option.map_eq_some_iff.1 ((instrOf_map_bytes op b1 b2).trans (opcodeBytes_eq_some_iff.2 ⟨h, rfl⟩))

/-! ### The decoder -/

theorem decode_of_unlisted {op : Byte} (h : op ∈ unlistedOpcodes) (l : List Byte) :
    decode (op :: l) = .illegalOpcode op := by
  simp only [decode, opcodeBytes_of_unlisted op h]

theorem decode_of_instrOf {op : Byte} {l : List Byte} {i : Instr}
    (h : instrOf op (l.getD 0 0) (l.getD 1 0) = some i) :
    decode (op :: l) = if l.length + 1 < i.bytes then .truncated op else .instr i (l.drop (i.bytes - 1)) := by
  have hn : opcodeBytes op = some i.bytes := by rw [← instrOf_map_bytes op, h, Option.map_some]
  simp only [decode, hn, h]

/-- The decoder reads an instruction exactly where its encoding stands. -/
theorem decode_eq_instr_iff {bytes rest : List Byte} {i : Instr} :
    decode bytes = .instr i rest ↔ bytes = encode i ++ rest := by
  have hlen := i.operandBytes_length
  obtain ⟨_, hmax⟩ := i.bytes_bounds
  constructor
  · intro h
    cases bytes with
    | nil => cases h
    | cons op l =>
      by_cases hop : op ∈ unlistedOpcodes
      · rw [decode_of_unlisted hop] at h
        cases h
      · obtain ⟨j, hj, _⟩ := exists_instrOf_of_listed hop (l.getD 0 0) (l.getD 1 0)
        rw [decode_of_instrOf hj] at h
        split at h
        · cases h
        · cases h
          obtain ⟨rfl, hb⟩ := eq_of_instrOf hj
          rw [encode, hb, take_getD_pair (by omega) (by omega), List.cons_append, List.take_append_drop]
  · rintro rfl
    have hn : i.bytes - 1 = i.operandBytes.length := by omega
    have hi : instrOf i.row.opcode ((i.operandBytes ++ rest).getD 0 0) ((i.operandBytes ++ rest).getD 1 0) =
        some i := by
      refine instrOf_of_operandBytes ?_
      rw [take_getD_pair (by omega) (by rw [List.length_append]; omega), hn, List.take_left]
    rw [encode, List.cons_append, decode_of_instrOf hi, if_neg (by rw [List.length_append]; omega), hn, List.drop_left]

theorem decode_encode (i : Instr) : decode (encode i) = .instr i [] :=
  decode_eq_instr_iff.2 (List.append_nil _).symm

/-- The well-formed byte sequences are the encodings (30_encoding R91, R93, R97). -/
theorem wellFormedBytes_iff {bytes : List Byte} : wellFormedBytes bytes = true ↔ ∃ i, bytes = encode i := by
  constructor
  · intro h
    cases bytes with
    | nil => cases h
    | cons op l =>
      simp only [wellFormedBytes, Bool.and_eq_true, Bool.not_eq_true', List.contains_eq_mem, decide_eq_false_iff_not,
        beq_iff_eq] at h
      obtain ⟨hop, hlen⟩ := h
      obtain ⟨i, hi, hbytes⟩ := exists_instrOf_of_listed hop (l.getD 0 0) (l.getD 1 0)
      have hdec : decode (op :: l) = .instr i [] := by
        rw [decode_of_instrOf hi, if_neg (by omega), List.drop_eq_nil_of_le (by omega)]
      exact ⟨i, by rw [decode_eq_instr_iff.1 hdec, List.append_nil]⟩
  · rintro ⟨i, rfl⟩
    obtain ⟨hop, hmap⟩ := opcodeBytes_eq_some_iff.1 (opcodeBytes_opcode i)
    simp [wellFormedBytes, encode, hop, hmap, i.operandBytes_length]

end Sys2Proof
end

section
/-! PROOF. The displacement of a branch: the assembler accepts a target exactly when a byte reaches it
(30_encoding R111, R114 (b)). -/

namespace Sys2Proof.Machine

theorem loByte_sext16 (b : Byte) : loByte (sext16 b) = b := by
  ext k hk
  rw [loByte, sext16, BitVec.getElem_setWidth, BitVec.getLsbD_signExtend]
  simp [hk, Nat.lt_trans hk]

theorem sext16_range (b : Byte) : -128 ≤ (sext16 b).toInt ∧ (sext16 b).toInt ≤ 127 := by
  rw [sext16_toInt]
  exact ⟨BitVec.le_toInt b, Int.le_of_lt_add_one BitVec.toInt_lt⟩

/-- A word in the range of a signed byte is the extension of its low byte (00_scope R11). -/
theorem sext16_loByte {d : Word} (hlo : -128 ≤ d.toInt) (hhi : d.toInt ≤ 127) : sext16 (loByte d) = d := by
  apply BitVec.eq_of_toInt_eq
  rw [sext16_toInt, loByte, BitVec.toInt_setWidth]
  have := BitVec.toInt_eq_toNat_cond d
  have := d.isLt
  rw [Int.bmod_def]
  split <;> omega

theorem relativeTarget_eq_iff {pc0 target : Word} {b : Byte} :
    relativeTarget pc0 b = target ↔ sext16 b = target - (pc0 + 2) := by
  rw [relativeTarget, BitVec.eq_sub_iff_add_eq, BitVec.add_comm]

/-- The assembler's displacement for a target is the one byte that reaches it. -/
theorem branchOperand_eq_some_iff {pc0 target : Word} {b : Byte} :
    branchOperand pc0 target = some b ↔ relativeTarget pc0 b = target := by
  rw [relativeTarget_eq_iff, branchOperand]
  generalize target - (pc0 + 2) = d
  simp only [Option.ite_none_right_eq_some, Bool.and_eq_true, decide_eq_true_eq, Option.some.injEq]
  constructor
  · rintro ⟨⟨hlo, hhi⟩, rfl⟩
    exact sext16_loByte hlo hhi
  · rintro rfl
    exact ⟨sext16_range b, loByte_sext16 b⟩

end Sys2Proof.Machine
end

section
/-! PROOF. The sums of the addressing modes as numbers (30_encoding R103 to R110), and the two accounts of a crossed
page (R107, R108, R110; 70_reset_and_hazards R290). -/

namespace Sys2Proof.Machine

open Sys2Proof.Claims

theorem zext16_add_toNat (b k : Byte) : (zext16 (b + k)).toNat = (b.toNat + k.toNat) % 256 := by
  rw [zext16_toNat, BitVec.toNat_add]

theorem mkWord_add_toNat (hi lo k : Byte) :
    (mkWord hi lo + zext16 k).toNat = (hi.toNat * 256 + lo.toNat + k.toNat) % 65536 := by
  rw [BitVec.toNat_add, mkWord_toNat, zext16_toNat]

/-- An index changes the high byte exactly when it carries out of the low byte. -/
theorem hiByte_mkWord_add (hi lo k : Byte) :
    (hiByte (mkWord hi lo + zext16 k) != hi) = decide (256 ≤ lo.toNat + k.toNat) := by
  have := hi.isLt
  have := lo.isLt
  have := k.isLt
  rw [Bool.eq_iff_iff, bne_iff_ne, decide_eq_true_iff, ne_eq, BitVec.toNat_eq, hiByte_toNat, mkWord_add_toNat]
  omega

theorem State.peek_zext16 (s : State) (z : Byte) : s.peek (zext16 z) = s.stored (zext16 z) :=
  s.peek_plain (.inl (s.kindAt_zext16 z))

/-- The carry out of the low byte and the change of the page are one condition, in every instruction and state. -/
theorem pageCrossed_eq_leavesPage (i : Instr) (s : State) : pageCrossed i s = leavesPage i s := by
  unfold pageCrossed leavesPage
  cases i.row.mode <;> simp only
  case abx => exact (hiByte_mkWord_add _ _ _).symm
  case aby => exact (hiByte_mkWord_add _ _ _).symm
  case izy =>
    rw [State.indirectY_eq, State.read16zp_eq, hiByte_mkWord, hiByte_mkWord_add, State.peek_zext16]

end Sys2Proof.Machine
end

section
/-! PROOF. Fetching and one boundary without an event (30_encoding R97, R99; 60_exceptions R242): which instruction the
bytes at PC are, and what the step does with it. -/

namespace Sys2Proof.Machine

/-! ### Sampling the inputs -/

@[simp] theorem State.sampleInputs_pc (s : State) : s.sampleInputs.pc = s.pc := by
  rcases s.sampleInputs_cases with ⟨_, h⟩ | ⟨b, rest, _, h⟩ <;> rw [h]

@[simp] theorem State.sampleInputs_stored (s : State) (addr : Word) : s.sampleInputs.stored addr = s.stored addr := by
  rw [State.stored, s.sampleInputs_keeps_mem.1, State.stored]

@[simp] theorem State.sampleInputs_kindAt (s : State) (addr : Word) : s.sampleInputs.kindAt addr = s.kindAt addr := by
  rw [State.kindAt, s.sampleInputs_keeps_mem.2, State.kindAt]

/-! ### Reading the bytes of an instruction -/

theorem State.readBytes_length (n : Nat) (addr : Word) (s : State) : (State.readBytes n addr s).1.length = n := by
  induction n generalizing addr s with
  | zero => rfl
  | succ n ih => exact congrArg (· + 1) (ih (addr + 1) (s.load addr).after)

/-- Bytes read from RAM and ROM are those stored there, and the reads change nothing (20_memory R75). -/
theorem State.readBytes_of_stored {s : State} {addr : Word} {code : List Byte}
    (h : ∀ k : Nat, k < code.length →
      (s.kindAt (addr + BitVec.ofNat 16 k) = .ram ∨ s.kindAt (addr + BitVec.ofNat 16 k) = .rom)
      ∧ s.stored (addr + BitVec.ofNat 16 k) = code.getD k 0) :
    State.readBytes code.length addr s = (code, s) := by
  induction code generalizing addr with
  | nil => rfl
  | cons b code ih =>
    obtain ⟨hkind, hb⟩ := h 0 (Nat.zero_lt_succ _)
    rw [BitVec.add_zero] at hkind hb
    have htail : State.readBytes code.length (addr + 1) s = (code, s) := by
      refine ih fun k hk => ?_
      have haddr : addr + 1 + BitVec.ofNat 16 k = addr + BitVec.ofNat 16 (k + 1) := by bv_omega
      rw [haddr]
      exact h (k + 1) (Nat.succ_lt_succ hk)
    simp only [List.length_cons, State.readBytes, s.load_plain hkind, htail, hb, List.getD_cons_zero]

/-- Where the byte at PC has a row, the bytes from PC on are those of some instruction (30_encoding R97, R99). -/
theorem State.exists_readBytes_of_listed {s : State} (h : s.peek s.pc ∉ unlistedOpcodes) :
    ∃ i, (State.readBytes i.bytes s.pc s).1 = encode i := by
  obtain ⟨j, _, hj⟩ := exists_instrOf_of_listed h 0 0
  have hwf : wellFormedBytes (State.readBytes j.bytes s.pc s).1 = true := by
    rw [← j.operandBytes_length] at hj ⊢
    simp [State.readBytes, wellFormedBytes, State.load, h, State.readBytes_length, hj]
  obtain ⟨i, hi⟩ := wellFormedBytes_iff.1 hwf
  have hlen : j.bytes = i.bytes := by
    rw [← encode_length i, ← hi, State.readBytes_length]
  exact ⟨i, hlen ▸ hi⟩

/-! ### The fetch -/

theorem State.fetch_of_readBytes {s after : State} {i : Instr}
    (h : State.readBytes i.bytes s.pc s = (encode i, after)) : s.fetch = .instr i after := by
  have hn : i.bytes - 1 = i.operandBytes.length := by
    rw [← i.operandBytes_length, Nat.add_sub_cancel]
  rw [← i.operandBytes_length, State.readBytes] at h
  obtain ⟨hcode, rfl⟩ := Prod.mk.inj h
  obtain ⟨hop, hoperands⟩ := List.cons.inj hcode
  have hdec : decode (i.row.opcode :: i.operandBytes) = .instr i [] := decode_encode i
  simp only [State.fetch, hop, opcodeBytes_opcode, hn, hoperands, hdec]

theorem State.fetch_of_unlisted {s : State} (h : s.peek s.pc ∈ unlistedOpcodes) :
    s.fetch = .illegal (s.peek s.pc) := by
  simp only [State.fetch, State.load, opcodeBytes_of_unlisted _ h]

/-! ### The step -/

section
variable {s after : State} {i : Instr} (hev : s.sampleInputs.event = .instruction)
include hev

theorem step_of_readBytes (h : State.readBytes i.bytes s.sampleInputs.pc s.sampleInputs = (encode i, after)) :
    step s = exec i after := by
  simp only [step, hev, State.fetch_of_readBytes h]

theorem step_of_unlisted (h : s.sampleInputs.peek s.pc ∈ unlistedOpcodes) :
    step s = .refused (.illegalOpcode (s.sampleInputs.peek s.pc) s.pc) := by
  rw [← s.sampleInputs_pc] at h ⊢
  simp only [step, hev, State.fetch_of_unlisted h]

theorem step_of_listed (h : s.sampleInputs.peek s.pc ∉ unlistedOpcodes) : ∃ t, step s = .next t := by
  rw [← s.sampleInputs_pc] at h
  obtain ⟨i, hi⟩ := State.exists_readBytes_of_listed h
  exact ⟨_, (step_of_readBytes hev (Prod.ext hi rfl)).trans (exec_eq_meaning i _)⟩

end

end Sys2Proof.Machine
end

section
/-! PROOF. The obligations of 30_encoding. -/

namespace Sys2Proof.Claims

open Sys2Proof.Machine

/-- Settles O1, by the characterisation of the decoder's answers. -/
theorem decodeOfEncode : Obligations.DecodeOfEncode :=
  fun _ _ => decode_eq_instr_iff.2 rfl

/-- Settles O2, by the characterisation of the decoder's answers. -/
theorem encodeOfDecode : Obligations.EncodeOfDecode :=
  fun _ _ _ => decode_eq_instr_iff.1

/-- Settles O3: both sides are the encodings. -/
theorem wellFormedBytesAreDecoded : Obligations.WellFormedBytesAreDecoded := by
  intro bytes
  simp only [wellFormedBytes_iff, decode_eq_instr_iff, List.append_nil]

/-- Settles O4: seven of the words are encodings, and the last byte is unlisted. -/
theorem sampleWordsDecode : Obligations.SampleWordsDecode :=
  ⟨decode_encode (.adcAbs 0x1234), decode_encode .aslAcc, decode_encode (.bcc 0xFE), decode_encode (.jmpInd 0x12FF),
    decode_encode (.staIzy 0xFB), decode_encode .rti, decode_encode (.ldxZpy 0x10),
    decode_of_unlisted (by decide) []⟩

/-- Settles O5: the byte that the assembler stores is the one that reaches the target. -/
theorem branchOperandReachesTarget : Obligations.BranchOperandReachesTarget :=
  fun _ _ => ⟨fun _ => branchOperand_eq_some_iff.1, fun ⟨b, hb⟩ => ⟨b, branchOperand_eq_some_iff.2 hb⟩⟩

/-- Settles O6: the sums are bytes, and the pointer's two bytes are stored in page zero. -/
theorem pageZeroAddressing : Obligations.PageZeroAddressing := by
  intro s b1 b2
  refine ⟨zext16_toNat b1, zext16_add_toNat b1 s.x, zext16_add_toNat b1 s.y, mkWord_toNat b2 b1, ?_,
    rfl, rfl, rfl, rfl, s.indirectX_after b1⟩
  rw [State.indirectX_eq, mkWord_toNat, State.stored, State.stored, zext16_add_toNat, zext16_add_toNat,
    BitVec.toNat_add]
  rfl

/-- Settles O7: the sums, then the page clauses through the carry out of the low byte. -/
theorem carryingIndexedAddressing : Obligations.CarryingIndexedAddressing := by
  intro s b1 b2
  refine ⟨mkWord_add_toNat b2 b1 s.x, mkWord_add_toNat b2 b1 s.y, ?pointer, rfl, rfl, s.indirectY_after b1,
    ?pageX, ?pageY, ?pageIndirect, ?carryX, ?carryY, ?carryIndirect⟩
  case pointer =>
    rw [State.indirectY_eq, mkWord_add_toNat, State.stored, State.stored, zext16_add_toNat, zext16_toNat]
    rfl
  case pageX | pageY | pageIndirect =>
    rw [pageCrossed_eq_leavesPage]
    simp [leavesPage, Instr.row, Instr.operandBytes]
  case carryX | carryY => simp [pageCrossed, Instr.row, Instr.operandBytes]
  case carryIndirect => simp [pageCrossed, Instr.row, Instr.operandBytes, State.read16zp_eq, State.peek_zext16]

/-- Settles O42: the fetch answers the instruction whose bytes it read. -/
theorem stepRunsDecodedInstruction : Obligations.StepRunsDecodedInstruction :=
  fun _ _ _ _ => step_of_readBytes

/-- Settles O43: the fetch reads the stored bytes and leaves the state, so O42's rule applies. -/
theorem stepRunsStoredInstruction : Obligations.StepRunsStoredInstruction := by
  intro s i hev hcode
  refine step_of_readBytes hev ?_
  rw [← encode_length, s.sampleInputs_pc]
  refine State.readBytes_of_stored fun k hk => ?_
  rw [s.sampleInputs_kindAt, s.sampleInputs_stored]
  exact hcode k (encode_length i ▸ hk)

/-- Settles O44, by the byte at PC. -/
theorem stepRefusesExactlyUnlisted : Obligations.StepRefusesExactlyUnlisted := by
  intro s hev
  split
  case isTrue h => exact step_of_unlisted hev h
  case isFalse h => exact step_of_listed hev h

end Sys2Proof.Claims
end

section
/-! PROOF. The forms of the claims are rows of the opcode table: a form's bytes are its instruction's encoding, and its
address or operand is the one that the instruction's addressing mode gives. -/

namespace Sys2Proof.Claims

open Sys2Proof.Machine

/-- An instruction's mnemonic, addressing mode and bytes (30_encoding R96). -/
structure HasRow (i : Instr) (m : Mnemonic) (mode : Mode) (code : List Byte) : Prop where
  mnemonic : i.row.mnemonic = m
  mode : i.row.mode = mode
  code : encode i = code

theorem hasRow_iff {i : Instr} {m : Mnemonic} {mode : Mode} {code : List Byte} :
    HasRow i m mode code ↔ i.row.mnemonic = m ∧ i.row.mode = mode ∧ i.row.opcode :: i.operandBytes = code :=
  ⟨fun ⟨hm, hmode, hcode⟩ => ⟨hm, hmode, hcode⟩, fun ⟨hm, hmode, hcode⟩ => ⟨hm, hmode, hcode⟩⟩

/-- A form of a mnemonic: its instruction's own bytes, and the effective address of that instruction. -/
structure AddrForm.IsOf (f : AddrForm) (m : Mnemonic) : Prop where
  mnemonic : f.instr.row.mnemonic = m
  notImmediate : f.instr.row.mode ≠ .imm
  code : encode f.instr = f.code
  address (s : State) : effectiveAddr f.instr s = f.ea s

/-- A form of a mnemonic: its instruction's own bytes, and the operand of that instruction. -/
structure ReadForm.IsOf (f : ReadForm) (m : Mnemonic) : Prop where
  mnemonic : f.instr.row.mnemonic = m
  code : encode f.instr = f.code
  loads (s : State) : Machine.operand f.instr s = f.operand s

@[simp] theorem AddrForm.IsOf.read {f : AddrForm} {m : Mnemonic} (h : f.IsOf m) : f.read.IsOf m where
  mnemonic := h.mnemonic
  code := h.code
  loads s := by
    have himm := h.notImmediate
    unfold Machine.operand
    split
    · contradiction
    · exact congrArg Located.load (h.address s)

/-! ### One form per addressing mode -/

section
variable {m : Mnemonic} {mode : Mode} {op b1 b2 : Byte} {i : Byte → Instr} {j : Word → Instr}

theorem HasRow.operandBytes_eq {i : Instr} {operands : List Byte} (h : HasRow i m mode (op :: operands)) :
    i.operandBytes = operands :=
  (List.cons.inj h.code).2

theorem HasRow.operandWord_eq {i : Instr} (h : HasRow i m mode [op, b1, b2]) : operandWord i = mkWord b2 b1 := by
  simp [operandWord, h.operandBytes_eq]

@[simp] theorem immForm_isOf (h : HasRow (i b1) m .imm [op, b1]) : (immForm i op b1).IsOf m :=
  ⟨h.mnemonic, h.code, fun s => by simp [immForm, operand, h.mode, h.operandBytes_eq]⟩

/-- A form over an address is a form of its row's mnemonic when its address is that of the row's mode. -/
theorem AddrForm.IsOf.of_row {f : AddrForm} (h : HasRow f.instr m mode f.code) (hmode : mode ≠ .imm)
    (hea : ∀ s, effectiveAddr f.instr s = f.ea s) : f.IsOf m :=
  ⟨h.mnemonic, h.mode ▸ hmode, h.code, hea⟩

@[simp] theorem zpForm_isOf (h : HasRow (i b1) m .zp [op, b1]) : (zpForm i op b1).IsOf m :=
  .of_row h (by decide) fun s => by simp [zpForm, effectiveAddr, h.mode, h.operandBytes_eq]

@[simp] theorem zpxForm_isOf (h : HasRow (i b1) m .zpx [op, b1]) : (zpxForm i op b1).IsOf m :=
  .of_row h (by decide) fun s => by simp [zpxForm, effectiveAddr, h.mode, h.operandBytes_eq]

@[simp] theorem zpyForm_isOf (h : HasRow (i b1) m .zpy [op, b1]) : (zpyForm i op b1).IsOf m :=
  .of_row h (by decide) fun s => by simp [zpyForm, effectiveAddr, h.mode, h.operandBytes_eq]

@[simp] theorem absForm_isOf (h : HasRow (j (mkWord b2 b1)) m .abs [op, b1, b2]) : (absForm j op b1 b2).IsOf m :=
  .of_row h (by decide) fun s => by simp [absForm, effectiveAddr, h.mode, h.operandWord_eq]

@[simp] theorem abxForm_isOf (h : HasRow (j (mkWord b2 b1)) m .abx [op, b1, b2]) : (abxForm j op b1 b2).IsOf m :=
  .of_row h (by decide) fun s => by simp [abxForm, effectiveAddr, h.mode, h.operandWord_eq]

@[simp] theorem abyForm_isOf (h : HasRow (j (mkWord b2 b1)) m .aby [op, b1, b2]) : (abyForm j op b1 b2).IsOf m :=
  .of_row h (by decide) fun s => by simp [abyForm, effectiveAddr, h.mode, h.operandWord_eq]

@[simp] theorem izxForm_isOf (h : HasRow (i b1) m .izx [op, b1]) : (izxForm i op b1).IsOf m :=
  .of_row h (by decide) fun s => by simp [izxForm, effectiveAddr, h.mode, h.operandBytes_eq]

@[simp] theorem izyForm_isOf (h : HasRow (i b1) m .izy [op, b1]) : (izyForm i op b1).IsOf m :=
  .of_row h (by decide) fun s => by simp [izyForm, effectiveAddr, h.mode, h.operandBytes_eq]

end

/-! ### The forms of each mnemonic -/

section
variable (b1 b2 : Byte)

theorem adcForms_isOf : ∀ f ∈ adcForms b1 b2, f.IsOf .adc := by
  simp [adcForms, hasRow_iff, Instr.row, Instr.operandBytes]

theorem sbcForms_isOf : ∀ f ∈ sbcForms b1 b2, f.IsOf .sbc := by
  simp [sbcForms, hasRow_iff, Instr.row, Instr.operandBytes]

theorem andForms_isOf : ∀ f ∈ andForms b1 b2, f.IsOf .and := by
  simp [andForms, hasRow_iff, Instr.row, Instr.operandBytes]

theorem eorForms_isOf : ∀ f ∈ eorForms b1 b2, f.IsOf .eor := by
  simp [eorForms, hasRow_iff, Instr.row, Instr.operandBytes]

theorem oraForms_isOf : ∀ f ∈ oraForms b1 b2, f.IsOf .ora := by
  simp [oraForms, hasRow_iff, Instr.row, Instr.operandBytes]

theorem bitForms_isOf : ∀ f ∈ bitForms b1 b2, f.IsOf .bit := by
  simp [bitForms, hasRow_iff, Instr.row, Instr.operandBytes]

theorem cmpForms_isOf : ∀ f ∈ cmpForms b1 b2, f.IsOf .cmp := by
  simp [cmpForms, hasRow_iff, Instr.row, Instr.operandBytes]

theorem cpxForms_isOf : ∀ f ∈ cpxForms b1 b2, f.IsOf .cpx := by
  simp [cpxForms, hasRow_iff, Instr.row, Instr.operandBytes]

theorem cpyForms_isOf : ∀ f ∈ cpyForms b1 b2, f.IsOf .cpy := by
  simp [cpyForms, hasRow_iff, Instr.row, Instr.operandBytes]

end

end Sys2Proof.Claims
end

section
/-! PROOF. What a reading instruction leaves: its operation, applied to its form's operand with PC moved past its bytes.
The operand's reads change the draw counter and the device history alone. -/

namespace Sys2Proof.Machine

/-- No operand depends on PC (30_encoding R102 to R110). -/
theorem operand_advance (i : Instr) (s : State) (n : Word) :
    operand i (s.advance n) = { value := (operand i s).value, after := (operand i s).after.advance n } := by
  unfold operand
  split
  · rfl
  · simp only [Located.load_eq, effectiveAddr_advance, effectiveAddr_after]
    rfl

end Sys2Proof.Machine

namespace Sys2Proof.Claims

open Sys2Proof.Machine

/-- An operation on a fetched operand changes A, X, Y and P alone. -/
def RegistersOnly (l : Loaded) (t : State) : Prop := t = { l.after with a := t.a, x := t.x, y := t.y, p := t.p }

/-- An operand read in a state that is s but for PC and the bus. -/
def readIn (s : State) (v : Byte) (pc : Word) (k : Nat) (io : List IoAccess) : Loaded :=
  { value := v, after := { s with pc := pc, draws := k, io := io } }

/-- A mnemonic's operation on its operand: what its instructions leave of the operand read at PC after their bytes. -/
structure Reads (m : Mnemonic) (op : Loaded → State) : Prop where
  notJump : m ∉ writesPC
  meaning {i : Instr} (h : i.row.mnemonic = m) (s : State) :
    meaning i s = op (operand i (s.advance (.ofNat 16 i.bytes)))

section
variable {m : Mnemonic} {f : ReadForm} {s : State} {op : Loaded → State}

/-- A form completes with whatever holds of its operation on the operand, which s gives with another PC. -/
theorem completes_of_reads {post : State → Prop} (hop : Reads m op) (hf : f.IsOf m)
    (hpost : ∀ v pc k io, f.operand s = readIn s v s.pc k io → post (op (readIn s v pc k io))) :
    completes f.code f.instr s post := by
  refine ⟨hf.code ▸ decode_encode f.instr, meaning f.instr s, exec_eq_meaning _ _, ?_, ?_⟩
  · rw [meaning_pc (hf.mnemonic ▸ hop.notJump), ← hf.code, encode_length]
  · obtain ⟨k, io, hafter⟩ := operand_after f.instr s
    rw [hop.meaning hf.mnemonic, operand_advance, hafter]
    exact hpost _ _ k io (by rw [← hf.loads, readIn, ← hafter])

/-- The frame of a reading form, where its operation changes A, X, Y and P alone. -/
theorem readCompletes_of_reads {post : Byte → State → Prop} (hop : Reads m op) (hf : f.IsOf m)
    (hpost : ∀ v pc k io, RegistersOnly (readIn s v pc k io) (op (readIn s v pc k io))
      ∧ post v (op (readIn s v pc k io))) :
    readCompletes f s post := by
  refine completes_of_reads hop hf fun v pc k io hread => ?_
  obtain ⟨honly, hp⟩ := hpost v pc k io
  rw [RegistersOnly] at honly
  rw [hread]
  refine ⟨?_, ?_, ?_, ?_, hp⟩ <;> rw [honly]
  · rfl
  · exact fun _ => rfl
  · exact ⟨rfl, rfl, rfl, rfl, rfl⟩
  · exact ⟨rfl, rfl⟩

end

/-! ### The operations of 40_arith_logic -/

theorem reads_adc : Reads .adc adc := ⟨by decide, fun h _ => by simp only [meaning, h]⟩
theorem reads_sbc : Reads .sbc sbc := ⟨by decide, fun h _ => by simp only [meaning, h]⟩
theorem reads_and : Reads .and andA := ⟨by decide, fun h _ => by simp only [meaning, h]⟩
theorem reads_eor : Reads .eor eorA := ⟨by decide, fun h _ => by simp only [meaning, h]⟩
theorem reads_ora : Reads .ora oraA := ⟨by decide, fun h _ => by simp only [meaning, h]⟩
theorem reads_bit : Reads .bit bit := ⟨by decide, fun h _ => by simp only [meaning, h]⟩
theorem reads_cmp : Reads .cmp compareA := ⟨by decide, fun h _ => by simp only [meaning, h]⟩
theorem reads_cpx : Reads .cpx compareX := ⟨by decide, fun h _ => by simp only [meaning, h]⟩
theorem reads_cpy : Reads .cpy compareY := ⟨by decide, fun h _ => by simp only [meaning, h]⟩

end Sys2Proof.Claims
end

section
/-! PROOF. The results and flags of 40_arith_logic as numbers: binary addition and subtraction (R131, R141), the
comparison (R135) and BIT (R134). -/

namespace Sys2Proof.Machine

/-! ### The top bit of a byte -/

theorem byte_msb_eq_getLsbD (v : Byte) : v.msb = v.getLsbD 7 := BitVec.msb_eq_getLsbD_last v

theorem byte_msb_iff (v : Byte) : v.msb = true ↔ 128 ≤ v.toNat := by
  rw [BitVec.msb_eq_decide, decide_eq_true_iff]

theorem byte_getLsbD_eq_iff (u v : Byte) : u.getLsbD 7 = v.getLsbD 7 ↔ (128 ≤ u.toNat ↔ 128 ≤ v.toNat) := by
  rw [← byte_msb_iff, ← byte_msb_iff, byte_msb_eq_getLsbD, byte_msb_eq_getLsbD, Bool.eq_iff_iff]

/-- The signed value of a byte (00_scope R11). -/
theorem byte_toInt_cases (v : Byte) :
    v.toNat < 128 ∧ v.toInt = v.toNat ∨ 128 ≤ v.toNat ∧ v.toInt = (v.toNat : Int) - 256 := by
  have := BitVec.toInt_eq_toNat_cond v
  omega

theorem Flags.setNZ_eq (p : Flags) (v : Byte) : p.setNZ v = { p with n := v.getLsbD 7, z := decide (v = 0) } := by
  rw [← byte_msb_eq_getLsbD]
  rfl

/-! ### Binary addition (R131) -/

section
variable (a m : Byte) (p : Flags)

theorem adcBinary_toNat : (adcBinary a m p).value.toNat = (a.toNat + m.toNat + p.c.toNat) % 256 :=
  BitVec.toNat_ofNat _ 8

theorem adcBinary_c : (adcBinary a m p).flags.c = true ↔ 256 ≤ a.toNat + m.toNat + p.c.toNat := decide_eq_true_iff

theorem adcBinary_v : (adcBinary a m p).flags.v = true ↔
    a.getLsbD 7 = m.getLsbD 7 ∧ (adcBinary a m p).value.getLsbD 7 ≠ a.getLsbD 7 := by
  simp only [← byte_msb_eq_getLsbD]
  simp [adcBinary]

theorem adcBinary_v_formula : (adcBinary a m p).flags.v =
    ((a ^^^ (adcBinary a m p).value) &&& (m ^^^ (adcBinary a m p).value)).getLsbD 7 := by
  rw [Bool.eq_iff_iff, adcBinary_v, BitVec.getLsbD_and, BitVec.getLsbD_xor, BitVec.getLsbD_xor]
  cases a.getLsbD 7 <;> cases m.getLsbD 7 <;> simp

/-- V says that the signed sum is outside the range of a byte. -/
theorem adcBinary_v_signed : (adcBinary a m p).flags.v = true ↔
    a.toInt + m.toInt + p.c.toNat < -128 ∨ 127 < a.toInt + m.toInt + p.c.toNat := by
  have := byte_toInt_cases a
  have := byte_toInt_cases m
  have := p.c.toNat_le
  have := adcBinary_toNat a m p
  rw [adcBinary_v, ne_eq, byte_getLsbD_eq_iff, byte_getLsbD_eq_iff]
  omega

theorem adcBinary_nz : (adcBinary a m p).flags.n = (adcBinary a m p).value.getLsbD 7
    ∧ ((adcBinary a m p).flags.z = true ↔ (adcBinary a m p).value = 0) :=
  ⟨byte_msb_eq_getLsbD _, decide_eq_true_iff⟩

/-! ### Binary subtraction (R141) -/

/-- The remainder of a number, as a byte. -/
theorem byte_ofInt_toNat (n : Int) : ((BitVec.ofInt 8 n).toNat : Int) = n % 256 := by
  rw [BitVec.toNat_ofInt]
  omega

theorem sbcBinary_toNat : ((sbcBinary a m p).value.toNat : Int) = (a.toNat - m.toNat - (1 - (p.c.toNat : Int))) % 256 :=
  byte_ofInt_toNat _

theorem complement_toNat : (m ^^^ 0xFF).toNat = 255 - m.toNat :=
  (congrArg BitVec.toNat BitVec.xor_allOnes).trans BitVec.toNat_not

/-- A - M with the complement of C as borrow is A plus the complement of M plus C. -/
theorem sbcBinary_eq_adcBinary : sbcBinary a m p = adcBinary a (m ^^^ 0xFF) p := by
  have := m.isLt
  have hcompl := complement_toNat m
  have hvalue : (sbcBinary a m p).value = (adcBinary a (m ^^^ 0xFF) p).value := by
    have := sbcBinary_toNat a m p
    have := adcBinary_toNat a (m ^^^ 0xFF) p
    apply BitVec.eq_of_toNat_eq
    omega
  have hcarry : (sbcBinary a m p).flags.c = (adcBinary a (m ^^^ 0xFF) p).flags.c := by
    rw [Bool.eq_iff_iff, adcBinary_c]
    simp only [sbcBinary, decide_eq_true_iff]
    omega
  have hsign : (a.msb != m.msb) = (a.msb == (m ^^^ 0xFF).msb) := by
    rw [BitVec.msb_xor]
    cases a.msb <;> cases m.msb <;> rfl
  simp only [sbcBinary, adcBinary] at hvalue hcarry ⊢
  rw [hvalue, hcarry, hsign]

theorem sbcBinary_c : (sbcBinary a m p).flags.c = true ↔ 0 ≤ (a.toNat : Int) - m.toNat - (1 - (p.c.toNat : Int)) :=
  decide_eq_true_iff

theorem sbcBinary_v : (sbcBinary a m p).flags.v = true ↔
    a.getLsbD 7 ≠ m.getLsbD 7 ∧ (sbcBinary a m p).value.getLsbD 7 ≠ a.getLsbD 7 := by
  simp only [← byte_msb_eq_getLsbD]
  simp [sbcBinary]

/-- V says that the signed difference is outside the range of a byte: the complement of M is -1 - M. -/
theorem sbcBinary_v_signed : (sbcBinary a m p).flags.v = true ↔
    a.toInt - m.toInt - (1 - (p.c.toNat : Int)) < -128 ∨ 127 < a.toInt - m.toInt - (1 - (p.c.toNat : Int)) := by
  have hcompl : (m ^^^ 0xFF).toInt = -1 - m.toInt := by
    have := byte_toInt_cases m
    have := byte_toInt_cases (m ^^^ 0xFF)
    have := complement_toNat m
    omega
  rw [sbcBinary_eq_adcBinary, adcBinary_v_signed, hcompl]
  omega

theorem sbcBinary_nz : (sbcBinary a m p).flags.n = (sbcBinary a m p).value.getLsbD 7
    ∧ ((sbcBinary a m p).flags.z = true ↔ (sbcBinary a m p).value = 0) :=
  ⟨byte_msb_eq_getLsbD _, decide_eq_true_iff⟩

/-! ### The comparison (R135) and BIT (R134) -/

theorem Flags.compare_c (r : Byte) : (p.compare r m).c = true ↔ m.toNat ≤ r.toNat := decide_eq_true_iff

theorem Flags.compare_z (r : Byte) : (p.compare r m).z = true ↔ r = m := decide_eq_true_iff

theorem Flags.compare_n (r : Byte) : (p.compare r m).n = true ↔ 128 ≤ ((r.toNat : Int) - m.toNat) % 256 := by
  have hdiff : (p.compare r m).n = (r - m).msb := rfl
  have := m.isLt
  rw [hdiff, byte_msb_iff, BitVec.toNat_sub]
  omega

theorem and_eq_zero_iff : a &&& m = 0 ↔ ∀ k, (a.getLsbD k && m.getLsbD k) = false := by
  constructor
  · intro h k
    rw [← BitVec.getLsbD_and, h]
    exact BitVec.getLsbD_zero
  · intro h
    exact BitVec.eq_of_getLsbD_eq fun k _ => (BitVec.getLsbD_and.trans (h k)).trans BitVec.getLsbD_zero.symm

theorem Flags.bitTest_z : (p.bitTest a m).z = true ↔ ∀ k, (a.getLsbD k && m.getLsbD k) = false :=
  decide_eq_true_iff.trans (and_eq_zero_iff a m)

end

end Sys2Proof.Machine
end

section
/-! PROOF. Decimal mode as numbers (40_arith_logic R132, R142, R143): the BCD bytes, the conservative rules and the NMOS
algorithm. -/

namespace Sys2Proof.Machine

theorem validBcd_iff (b : Byte) : validBcd b = true ↔ b.toNat / 16 ≤ 9 ∧ b.toNat % 16 ≤ 9 := by
  simp [validBcd]

theorem bcdValue_le {b : Byte} (h : validBcd b = true) : bcdValue b ≤ 99 := by
  rw [validBcd_iff] at h
  rw [bcdValue]
  omega

theorem toBcd_toNat {n : Nat} (h : n < 100) : (toBcd n).toNat = 16 * (n / 10) + n % 10 := by
  rw [toBcd, BitVec.toNat_ofNat]
  omega

theorem validBcd_toBcd {n : Nat} (h : n < 100) : validBcd (toBcd n) = true := by
  rw [validBcd_iff, toBcd_toNat h]
  omega

theorem bcdValue_toBcd {n : Nat} (h : n < 100) : bcdValue (toBcd n) = n := by
  rw [bcdValue, toBcd_toNat h]
  omega

/-- The two digits of a number modulo 100. -/
theorem toBcd_mod_toNat (d : Nat) : (toBcd (d % 100)).toNat = 16 * (d / 10 % 10) + d % 10 := by
  have htens : d % 100 / 10 = d / 10 % 10 := by omega
  rw [toBcd_toNat (by omega), htens, Nat.mod_mod_of_dvd d (by decide)]

theorem toBcd_mod_toInt (d : Int) : ((toBcd (d % 100).toNat).toNat : Int) = 16 * (d / 10 % 10) + d % 10 := by
  have htens : d % 100 / 10 = d / 10 % 10 := by omega
  rw [toBcd_toNat (by omega)]
  omega

section
variable {a m : Byte} {p : Flags} {k : Nat}

/-! ### The conservative rules (R132, R142) -/

theorem adcConservative_valid (ha : validBcd a = true) (hm : validBcd m = true) : adcConservative a m p k =
    decimalValid (toBcd ((bcdValue a + bcdValue m + p.c.toNat) % 100))
      (decide (100 ≤ bcdValue a + bcdValue m + p.c.toNat)) p k := by
  simp [adcConservative, ha, hm]

theorem sbcConservative_valid (ha : validBcd a = true) (hm : validBcd m = true) : sbcConservative a m p k =
    decimalValid (toBcd (((bcdValue a : Int) - bcdValue m - (1 - (p.c.toNat : Int))) % 100).toNat)
      (decide (0 ≤ (bcdValue a : Int) - bcdValue m - (1 - (p.c.toNat : Int)))) p k := by
  simp [sbcConservative, ha, hm]

theorem adcConservative_invalid (h : ¬(validBcd a = true ∧ validBcd m = true)) :
    adcConservative a m p k = decimalInvalid p k := by
  rw [adcConservative, if_neg (by rwa [Bool.and_eq_true])]

theorem sbcConservative_invalid (h : ¬(validBcd a = true ∧ validBcd m = true)) :
    sbcConservative a m p k = decimalInvalid p k := by
  rw [sbcConservative, if_neg (by rwa [Bool.and_eq_true])]

/-- The sum of two BCD bytes is a BCD byte with a carry, and three flags are draws (R132). -/
theorem adcConservative_result (ha : validBcd a = true) (hm : validBcd m = true) :
    let r := adcConservative a m p k
    let d := bcdValue a + bcdValue m + p.c.toNat
    validBcd r.value = true ∧ bcdValue r.value = d % 100 ∧ (r.flags.c = true ↔ 100 ≤ d)
      ∧ r.flags.n = Config.any1 k ∧ r.flags.v = Config.any1 (k + 1) ∧ r.flags.z = Config.any1 (k + 2)
      ∧ r.draws = k + 3 := by
  intro r d
  have hlt : d % 100 < 100 := Nat.mod_lt d (by decide)
  have hr : r = decimalValid (toBcd (d % 100)) (decide (100 ≤ d)) p k := adcConservative_valid ha hm
  rw [hr]
  exact ⟨validBcd_toBcd hlt, bcdValue_toBcd hlt, decide_eq_true_iff, rfl, rfl, rfl, rfl⟩

/-- The difference of two BCD bytes is a BCD byte with a carry, and three flags are draws (R142). -/
theorem sbcConservative_result (ha : validBcd a = true) (hm : validBcd m = true) :
    let r := sbcConservative a m p k
    let d : Int := (bcdValue a : Int) - bcdValue m - (1 - (p.c.toNat : Int))
    validBcd r.value = true ∧ (bcdValue r.value : Int) = d % 100 ∧ (r.flags.c = true ↔ 0 ≤ d)
      ∧ r.flags.n = Config.any1 k ∧ r.flags.v = Config.any1 (k + 1) ∧ r.flags.z = Config.any1 (k + 2)
      ∧ r.draws = k + 3 := by
  intro r d
  have hlt : (d % 100).toNat < 100 := by omega
  have hvalue : (bcdValue (toBcd (d % 100).toNat) : Int) = d % 100 := by
    rw [bcdValue_toBcd hlt]
    omega
  have hr : r = decimalValid (toBcd (d % 100).toNat) (decide (0 ≤ d)) p k := sbcConservative_valid ha hm
  rw [hr]
  exact ⟨validBcd_toBcd hlt, hvalue, decide_eq_true_iff, rfl, rfl, rfl, rfl⟩

/-- Without two BCD bytes A and four flags are draws (R132, R142). -/
theorem decimalInvalid_result :
    let r := decimalInvalid p k
    r.value = Config.any8 k ∧ r.flags.c = Config.any1 (k + 1) ∧ r.flags.n = Config.any1 (k + 2)
      ∧ r.flags.v = Config.any1 (k + 3) ∧ r.flags.z = Config.any1 (k + 4) ∧ r.draws = k + 5 :=
  ⟨rfl, rfl, rfl, rfl, rfl, rfl⟩

/-! ### ADC and SBC under each of the rules (R131, R132, R141 to R143) -/

section
variable {l : Loaded}

theorem adc_keeps_id (l : Loaded) : (adc l).p.i = l.after.p.i ∧ (adc l).p.d = l.after.p.d := adcResult_keeps ..

theorem sbc_keeps_id (l : Loaded) : (sbc l).p.i = l.after.p.i ∧ (sbc l).p.d = l.after.p.d := sbcResult_keeps ..

theorem adc_of_binary (hd : l.after.p.d = false) :
    adc l =
      let r := adcBinary l.after.a l.value l.after.p
      { l.after with a := r.value, p := r.flags } := by
  simp [adcResult, hd]

theorem adc_of_conservative (hd : l.after.p.d = true) (hmodel : l.after.params.decimalModel = .conservative) :
    adc l =
      let r := adcConservative l.after.a l.value l.after.p l.after.draws
      { l.after with a := r.value, p := r.flags, draws := r.draws } := by
  simp [adcResult, hd, hmodel]

theorem adc_of_nmos (hd : l.after.p.d = true) (hmodel : l.after.params.decimalModel = .nmosReference) :
    adc l =
      let r := adcNmos l.after.a l.value l.after.p
      { l.after with a := r.value, p := r.flags } := by
  simp [adcResult, hd, hmodel]

theorem sbc_of_binary (hd : l.after.p.d = false) :
    sbc l =
      let r := sbcBinary l.after.a l.value l.after.p
      { l.after with a := r.value, p := r.flags } := by
  simp [sbcResult, hd]

theorem sbc_of_conservative (hd : l.after.p.d = true) (hmodel : l.after.params.decimalModel = .conservative) :
    sbc l =
      let r := sbcConservative l.after.a l.value l.after.p l.after.draws
      { l.after with a := r.value, p := r.flags, draws := r.draws } := by
  simp [sbcResult, hd, hmodel]

theorem sbc_of_nmos (hd : l.after.p.d = true) (hmodel : l.after.params.decimalModel = .nmosReference) :
    sbc l =
      let r := sbcNmos l.after.a l.value l.after.p
      { l.after with a := r.value, p := r.flags } := by
  simp [sbcResult, hd, hmodel]

end

/-! ### The NMOS algorithm (R143) -/

/-- The sum of the NMOS decimal ADC after its correction. -/
def nmosAdcTotal (a m : Byte) (c : Bool) : Nat :=
  if 0xA0 ≤ nmosAdcSum a m c then nmosAdcSum a m c + 0x60 else nmosAdcSum a m c

theorem adcNmos_toNat : (adcNmos a m p).value.toNat = nmosAdcTotal a m p.c % 256 := BitVec.toNat_ofNat _ 8

theorem adcNmos_c : (adcNmos a m p).flags.c = true ↔ 0x100 ≤ nmosAdcTotal a m p.c := decide_eq_true_iff

theorem adcNmos_z : (adcNmos a m p).flags.z = true ↔ (a.toNat + m.toNat + p.c.toNat) % 256 = 0 := decide_eq_true_iff

theorem adcNmos_n : (adcNmos a m p).flags.n = true ↔ nmosAdcSum a m p.c / 128 % 2 = 1 := by
  have hbit : (adcNmos a m p).flags.n = (nmosAdcSum a m p.c).testBit 7 := rfl
  rw [hbit, Nat.testBit_eq_decide_div_mod_eq, decide_eq_true_iff]

theorem adcNmos_v : (adcNmos a m p).flags.v = true ↔
    a.getLsbD 7 = m.getLsbD 7 ∧ (nmosAdcSum a m p.c).testBit 7 ≠ a.getLsbD 7 := by
  simp only [← byte_msb_eq_getLsbD]
  simp [adcNmos]

/-! ### The NMOS algorithm (R143) on BCD bytes -/

/-- The digit correction keeps a decimal sum's digits apart, one in each half of the byte. -/
theorem nmosAdcSum_of_valid (c : Bool) (ha : validBcd a = true) (hm : validBcd m = true) {d : Nat}
    (hd : d = bcdValue a + bcdValue m + c.toNat) : nmosAdcSum a m c = 16 * (d / 10) + d % 10 := by
  obtain ⟨_, _⟩ := (validBcd_iff a).1 ha
  obtain ⟨_, _⟩ := (validBcd_iff m).1 hm
  have := c.toNat_le
  simp only [bcdValue] at hd
  simp only [nmosAdcSum, nmosAdcLow]
  split <;> omega

theorem adcNmos_of_valid (ha : validBcd a = true) (hm : validBcd m = true) :
    (adcNmos a m p).value = (adcConservative a m p k).value
      ∧ (adcNmos a m p).flags.c = (adcConservative a m p k).flags.c := by
  rw [adcConservative_valid ha hm]
  obtain ⟨d, hd⟩ : ∃ d, d = bcdValue a + bcdValue m + p.c.toNat := ⟨_, rfl⟩
  have hbound : d / 10 < 20 := by
    have := bcdValue_le ha
    have := bcdValue_le hm
    have := p.c.toNat_le
    omega
  simp only [adcNmos, decimalValid, nmosAdcSum_of_valid p.c ha hm hd, ← hd]
  constructor
  · apply BitVec.eq_of_toNat_eq
    rw [BitVec.toNat_ofNat, toBcd_mod_toNat]
    split <;> omega
  · rw [decide_eq_decide]
    split <;> omega

theorem nmosSbcSum_of_valid (c : Bool) (ha : validBcd a = true) (hm : validBcd m = true) {d : Int}
    (hd : d = (bcdValue a : Int) - bcdValue m - (1 - (c.toNat : Int))) :
    (a.toNat / 16 * 16 : Nat) - (m.toNat / 16 * 16 : Nat) + nmosSbcLow a m c = 16 * (d / 10) + d % 10 := by
  obtain ⟨_, _⟩ := (validBcd_iff a).1 ha
  obtain ⟨_, _⟩ := (validBcd_iff m).1 hm
  have := c.toNat_le
  simp only [bcdValue] at hd
  simp only [nmosSbcLow]
  split <;> omega

theorem sbcNmos_of_valid (ha : validBcd a = true) (hm : validBcd m = true) :
    (sbcNmos a m p).value = (sbcConservative a m p k).value
      ∧ (sbcNmos a m p).flags.c = (sbcConservative a m p k).flags.c := by
  rw [sbcConservative_valid ha hm]
  obtain ⟨d, hd⟩ : ∃ d, d = (bcdValue a : Int) - bcdValue m - (1 - (p.c.toNat : Int)) := ⟨_, rfl⟩
  have := p.c.toNat_le
  have hbound : -10 ≤ d / 10 ∧ d / 10 < 10 := by
    have := bcdValue_le ha
    have := bcdValue_le hm
    omega
  simp only [sbcNmos, decimalValid, nmosSbcSum_of_valid p.c ha hm hd, ← hd]
  constructor
  · apply BitVec.eq_of_toNat_eq
    rw [← Int.natCast_inj, byte_ofInt_toNat, toBcd_mod_toInt]
    split <;> omega
  · rw [Bool.eq_iff_iff, sbcBinary_c, decide_eq_true_iff]
    rw [validBcd_iff] at ha hm
    simp only [bcdValue] at hd
    rcases Nat.lt_trichotomy (a.toNat / 16) (m.toNat / 16) with h | h | h <;> omega

end

end Sys2Proof.Machine
end

section
/-! PROOF. The obligations of 40_arith_logic. -/

namespace Sys2Proof.Claims

open Sys2Proof.Machine

/-- Settles O8: the binary sum of R131. -/
theorem adcBinaryResult : Obligations.AdcBinaryResult := by
  intro s b1 b2 hd f hf
  refine readCompletes_of_reads reads_adc (adcForms_isOf b1 b2 f hf) fun v pc k io => ?_
  rw [adc_of_binary (l := readIn s v pc k io) hd]
  obtain ⟨hn, hz⟩ := adcBinary_nz s.a v s.p
  exact ⟨rfl, adcBinary_toNat .., adcBinary_c .., adcBinary_v_signed .., adcBinary_v .., adcBinary_v_formula .., hn, hz,
    rfl, rfl, rfl, rfl⟩

/-- Settles O9: the binary difference of R141, and the sum that it equals. -/
theorem sbcBinaryResult : Obligations.SbcBinaryResult := by
  intro s b1 b2 hd f hf
  refine readCompletes_of_reads reads_sbc (sbcForms_isOf b1 b2 f hf) fun v pc k io => ?_
  rw [sbc_of_binary (l := readIn s v pc k io) hd]
  obtain ⟨hn, hz⟩ := sbcBinary_nz s.a v s.p
  have hadc := sbcBinary_eq_adcBinary s.a v s.p
  exact ⟨rfl, sbcBinary_toNat .., sbcBinary_c .., sbcBinary_v_signed .., sbcBinary_v .., hn, hz, rfl, rfl, rfl, rfl,
    congrArg Alu.value hadc, congrArg Alu.flags hadc⟩

/-- Settles O10, by whether the two operands are BCD bytes. -/
theorem adcDecimalConservativeResult : Obligations.AdcDecimalConservativeResult := by
  intro s b1 b2 hd hmodel f hf
  refine completes_of_reads reads_adc (adcForms_isOf b1 b2 f hf) fun v pc k io hread => ?_
  obtain ⟨hi, hd'⟩ := adc_keeps_id (readIn s v pc k io)
  rw [adc_of_conservative (l := readIn s v pc k io) hd hmodel] at hi hd' ⊢
  rw [hread]
  refine ⟨fun _ => rfl, ⟨rfl, rfl, rfl, rfl, rfl⟩, rfl, rfl, rfl, rfl, hi, hd', ?valid, ?invalid⟩
  case valid => exact fun ⟨ha, hm⟩ => adcConservative_result ha hm
  case invalid => exact fun h => adcConservative_invalid h ▸ decimalInvalid_result

/-- Settles O11, by whether the two operands are BCD bytes. -/
theorem sbcDecimalConservativeResult : Obligations.SbcDecimalConservativeResult := by
  intro s b1 b2 hd hmodel f hf
  refine completes_of_reads reads_sbc (sbcForms_isOf b1 b2 f hf) fun v pc k io hread => ?_
  obtain ⟨hi, hd'⟩ := sbc_keeps_id (readIn s v pc k io)
  rw [sbc_of_conservative (l := readIn s v pc k io) hd hmodel] at hi hd' ⊢
  rw [hread]
  refine ⟨fun _ => rfl, ⟨rfl, rfl, rfl, rfl, rfl⟩, rfl, rfl, rfl, rfl, hi, hd', ?valid, ?invalid⟩
  case valid => exact fun ⟨ha, hm⟩ => sbcConservative_result ha hm
  case invalid => exact fun h => sbcConservative_invalid h ▸ decimalInvalid_result

/-- Settles O12: on BCD bytes the algorithm's intermediate sum has the decimal result's digits. -/
theorem nmosAgreesOnValidBcd : Obligations.NmosAgreesOnValidBcd := by
  intro a m p k ha hm
  obtain ⟨haddValue, haddCarry⟩ := adcNmos_of_valid (p := p) (k := k) ha hm
  exact ⟨haddValue, haddCarry, sbcNmos_of_valid ha hm⟩

/-- Settles O13: ADC's flags one by one, SBC's as the binary difference's. -/
theorem decimalNmosResult : Obligations.DecimalNmosResult := by
  intro s b1 b2 hd hmodel
  constructor
  · intro f hf
    refine readCompletes_of_reads reads_adc (adcForms_isOf b1 b2 f hf) fun v pc k io => ?_
    rw [adc_of_nmos (l := readIn s v pc k io) hd hmodel]
    exact ⟨rfl, adcNmos_toNat, adcNmos_c, adcNmos_z, adcNmos_n, adcNmos_v, rfl, rfl, rfl, rfl⟩
  · intro f hf
    refine readCompletes_of_reads reads_sbc (sbcForms_isOf b1 b2 f hf) fun v pc k io => ?_
    rw [sbc_of_nmos (l := readIn s v pc k io) hd hmodel]
    exact ⟨rfl, byte_ofInt_toNat _, rfl, rfl, rfl⟩

/-- AND, EOR and ORA are one argument: the form loads A with a function of A and the operand. -/
theorem readCompletes_of_loadA {m : Mnemonic} {op : Loaded → State} {f : ReadForm} (s : State) (g : Byte → Byte → Byte)
    {r : Byte → Byte → Nat → Bool} (hop : Reads m op) (hf : f.IsOf m)
    (hload : ∀ l, op l = l.after.loadA (g l.after.a l.value)) (hbits : ∀ a v k, (g a v).getLsbD k = r a v k) :
    readCompletes f s fun v t => (∀ k, t.a.getLsbD k = r s.a v k) ∧ t.x = s.x ∧ t.y = s.y
      ∧ t.p = { s.p with n := t.a.getLsbD 7, z := decide (t.a = 0) } := by
  refine readCompletes_of_reads hop hf fun v pc k io => ?_
  rw [hload]
  exact ⟨rfl, hbits s.a v, rfl, rfl, Flags.setNZ_eq ..⟩

/-- Settles O14, bit by bit. -/
theorem logicResults : Obligations.LogicResults := by
  intro s b1 b2
  refine ⟨fun f hf => ?_, fun f hf => ?_, fun f hf => ?_⟩
  · exact readCompletes_of_loadA s _ reads_and (andForms_isOf b1 b2 f hf) andA_eq fun _ _ _ => BitVec.getLsbD_and
  · exact readCompletes_of_loadA s _ reads_eor (eorForms_isOf b1 b2 f hf) eorA_eq fun _ _ _ => BitVec.getLsbD_xor
  · exact readCompletes_of_loadA s _ reads_ora (oraForms_isOf b1 b2 f hf) oraA_eq fun _ _ _ => BitVec.getLsbD_or

/-- Settles O15: BIT writes three flags alone. -/
theorem bitResult : Obligations.BitResult := by
  intro s b1 b2 f hf
  refine readCompletes_of_reads reads_bit (bitForms_isOf b1 b2 f hf) fun v pc k io => ?_
  rw [bit_eq]
  exact ⟨rfl, Flags.bitTest_z .., rfl, rfl, rfl, rfl, rfl, rfl, rfl, rfl, rfl⟩

/-- The three compares are one argument: the form sets the flags to the comparison of a register with the operand. -/
theorem readCompletes_of_compare {m : Mnemonic} {op : Loaded → State} {f : ReadForm} {s : State} (r : State → Byte)
    (hop : Reads m op) (hf : f.IsOf m) (hcmp : ∀ l, op l = l.after.setFlags (l.after.p.compare (r l.after) l.value))
    (hr : ∀ v pc k io, r (readIn s v pc k io).after = r s) :
    readCompletes f s fun v t =>
      (t.p.c = true ↔ v.toNat ≤ (r s).toNat) ∧ (t.p.z = true ↔ r s = v)
        ∧ (t.p.n = true ↔ 128 ≤ (((r s).toNat : Int) - v.toNat) % 256)
        ∧ t.p.v = s.p.v ∧ t.p.i = s.p.i ∧ t.p.d = s.p.d ∧ sameRegisters s t := by
  refine readCompletes_of_reads hop hf fun v pc k io => ?_
  rw [hcmp, hr]
  exact ⟨rfl, Flags.compare_c .., Flags.compare_z .., Flags.compare_n .., rfl, rfl, rfl, rfl, rfl, rfl, rfl⟩

/-- Settles O16, by the register compared. -/
theorem compareResults : Obligations.CompareResults := by
  rintro s b1 b2 _ f (⟨rfl, hf⟩ | ⟨rfl, hf⟩ | ⟨rfl, hf⟩)
  · exact readCompletes_of_compare State.a reads_cmp (cmpForms_isOf b1 b2 f hf) compareA_eq fun _ _ _ _ => rfl
  · exact readCompletes_of_compare State.x reads_cpx (cpxForms_isOf b1 b2 f hf) compareX_eq fun _ _ _ _ => rfl
  · exact readCompletes_of_compare State.y reads_cpy (cpyForms_isOf b1 b2 f hf) compareY_eq fun _ _ _ _ => rfl

end Sys2Proof.Claims
end

section
/-! PROOF. What a read-modify-write instruction leaves: its result on A, or on the byte at its form's address, with PC
moved past its bytes (41_shift_rotate R150; 44_incdec R185). -/

namespace Sys2Proof.Machine

open Sys2Proof.Claims

theorem State.store_stored_same (s : State) (addr : Word) (v : Byte) :
    (s.store addr v).stored addr = byteAfterWrite s addr v := by
  unfold byteAfterWrite
  cases hk : s.kindAt addr
  case ram => exact s.store_stored_ram v hk
  case colour => exact s.store_stored_colour v hk
  case rom | device | empty => exact s.store_stored_lost addr v (by simp [hk]) (by simp [hk])

theorem State.store_wroteOnly (s : State) (addr : Word) (v : Byte) : wroteOnly s s (s.store addr v) addr v :=
  ⟨fun _ hb => s.store_stored_other v hb, s.store_stored_same addr v, rfl, rfl⟩

/-- In a memory form neither the byte read, nor the write, nor the flags depend on PC. -/
theorem modifyOperand_advance {i : Instr} (hacc : i.row.mode ≠ .acc) (s : State) (n : Word)
    (g : Byte → Flags → Alu) : modifyOperand i (s.advance n) g =
      let e := effectiveAddr i s
      let r := g e.load.value s.p
      ((e.load.after.store e.addr r.value).setFlags r.flags).advance n := by
  simp only [modifyOperand, hacc, if_false, Located.modify_eq, Located.load_eq, effectiveAddr_after,
    effectiveAddr_advance]
  rfl

/-- The Accumulator rows of 70_reset_and_hazards R289. -/
theorem instrCycles_of_acc {i : Instr} (h : i.row.mode = .acc) (s : State) : instrCycles i s = 2 := by
  cases i
  case aslAcc | lsrAcc | rolAcc | rorAcc => rfl
  all_goals cases h

end Sys2Proof.Machine

namespace Sys2Proof.Claims

open Sys2Proof.Machine

/-- A memory form of a mnemonic: not its Accumulator form, which has no effective address. -/
def AddrForm.IsMemoryOf (f : AddrForm) (m : Mnemonic) : Prop := f.IsOf m ∧ f.instr.row.mode ≠ .acc

section
variable {m : Mnemonic} {op b1 b2 : Byte} {i : Byte → Instr} {j : Word → Instr}

@[simp] theorem zpForm_isMemoryOf (h : HasRow (i b1) m .zp [op, b1]) : (zpForm i op b1).IsMemoryOf m :=
  ⟨zpForm_isOf h, by simp [zpForm, h.mode]⟩

@[simp] theorem zpxForm_isMemoryOf (h : HasRow (i b1) m .zpx [op, b1]) : (zpxForm i op b1).IsMemoryOf m :=
  ⟨zpxForm_isOf h, by simp [zpxForm, h.mode]⟩

@[simp] theorem absForm_isMemoryOf (h : HasRow (j (mkWord b2 b1)) m .abs [op, b1, b2]) :
    (absForm j op b1 b2).IsMemoryOf m :=
  ⟨absForm_isOf h, by simp [absForm, h.mode]⟩

@[simp] theorem abxForm_isMemoryOf (h : HasRow (j (mkWord b2 b1)) m .abx [op, b1, b2]) :
    (abxForm j op b1 b2).IsMemoryOf m :=
  ⟨abxForm_isOf h, by simp [abxForm, h.mode]⟩

end

section
variable (b1 b2 : Byte)

theorem aslForms_isMemoryOf : ∀ f ∈ aslForms b1 b2, f.IsMemoryOf .asl := by
  simp [aslForms, hasRow_iff, Instr.row, Instr.operandBytes]

theorem lsrForms_isMemoryOf : ∀ f ∈ lsrForms b1 b2, f.IsMemoryOf .lsr := by
  simp [lsrForms, hasRow_iff, Instr.row, Instr.operandBytes]

theorem rolForms_isMemoryOf : ∀ f ∈ rolForms b1 b2, f.IsMemoryOf .rol := by
  simp [rolForms, hasRow_iff, Instr.row, Instr.operandBytes]

theorem rorForms_isMemoryOf : ∀ f ∈ rorForms b1 b2, f.IsMemoryOf .ror := by
  simp [rorForms, hasRow_iff, Instr.row, Instr.operandBytes]

end

/-! ### The Accumulator form of each mnemonic -/

theorem hasRow_aslAcc : HasRow .aslAcc .asl .acc [0x0A] := ⟨rfl, rfl, rfl⟩
theorem hasRow_lsrAcc : HasRow .lsrAcc .lsr .acc [0x4A] := ⟨rfl, rfl, rfl⟩
theorem hasRow_rolAcc : HasRow .rolAcc .rol .acc [0x2A] := ⟨rfl, rfl, rfl⟩
theorem hasRow_rorAcc : HasRow .rorAcc .ror .acc [0x6A] := ⟨rfl, rfl, rfl⟩

/-! ### What the two kinds of form leave -/

/-- A mnemonic's read-modify-write: what its instructions leave is the result, written where the byte was read. -/
def Modifies (m : Mnemonic) (g : Byte → Flags → Alu) : Prop :=
  ∀ (i : Instr) (s : State), i.row.mnemonic = m → meaning i s = modifyOperand i (s.advance (.ofNat 16 i.bytes)) g

theorem modifies_asl : Modifies .asl aslResult := fun _ _ h => by simp only [meaning, h]
theorem modifies_lsr : Modifies .lsr lsrResult := fun _ _ h => by simp only [meaning, h]
theorem modifies_rol : Modifies .rol rolResult := fun _ _ h => by simp only [meaning, h]
theorem modifies_ror : Modifies .ror rorResult := fun _ _ h => by simp only [meaning, h]

section
variable {m : Mnemonic} {g : Byte → Flags → Alu} {s : State} {r : Byte → Byte} {q : Byte → Flags}

/-- A memory form completes with its mnemonic's result on the byte read. -/
theorem modifyCompletes_of_modifies {f : AddrForm} (hop : Modifies m g) (hf : f.IsMemoryOf m)
    (hg : ∀ v, g v s.p = { value := r v, flags := q v }) : modifyCompletes f s r q := by
  obtain ⟨hof, hacc⟩ := hf
  have hmeaning := hop f.instr s hof.mnemonic
  rw [modifyOperand_advance hacc, hof.address] at hmeaning
  simp only [hg] at hmeaning
  have hafter : (f.ea s).after = s := by rw [← hof.address, effectiveAddr_after]
  refine ⟨hof.code ▸ decode_encode f.instr, meaning f.instr s, exec_eq_meaning _ _, ?pc, ?post⟩ <;> rw [hmeaning]
  case pc =>
    rw [← hof.code, encode_length]
    exact congrArg (·.pc + _) hafter
  case post =>
    generalize f.ea s = e at hafter ⊢
    obtain ⟨addr, after⟩ := e
    obtain rfl : after = s := hafter
    obtain ⟨hother, hsame, hbus⟩ := (after.afterRead addr).store_wroteOnly addr (r (after.peek addr))
    exact ⟨⟨rfl, rfl, rfl, rfl⟩, ⟨rfl, rfl, rfl, rfl, rfl⟩, rfl, hother, hsame, hbus⟩

theorem Modifies.meaning_of_acc {i : Instr} {op : Byte} (hop : Modifies m g) (hrow : HasRow i m .acc [op])
    (s : State) : meaning i s = (s.advance 1).modifyA g := by
  rw [hop i s hrow.mnemonic, modifyOperand, if_pos hrow.mode, ← encode_length, hrow.code]
  rfl

/-- An Accumulator form completes with its mnemonic's result on A, and touches no memory. -/
theorem implied_of_modifies {i : Instr} {op : Byte} (hop : Modifies m g) (hrow : HasRow i m .acc [op])
    (hg : ∀ v, g v s.p = { value := r v, flags := q v }) :
    implied op 2 i s fun t => t.a = r s.a ∧ t.p = q s.a ∧ t.x = s.x ∧ t.y = s.y ∧ t.sp = s.sp := by
  have hmeaning := hop.meaning_of_acc hrow s
  simp only [State.modifyA, State.advance_a, State.advance_p, hg] at hmeaning
  refine ⟨instrCycles_of_acc hrow.mode s, hrow.code ▸ decode_encode i, meaning i s, exec_eq_meaning i s, ?_⟩
  rw [hmeaning]
  exact ⟨rfl, fun _ => rfl, ⟨rfl, rfl, rfl, rfl, rfl⟩, ⟨rfl, rfl⟩, rfl, rfl, rfl, rfl, rfl⟩

end

end Sys2Proof.Claims
end

section
/-! PROOF. The results of 41_shift_rotate as numbers (R151 to R154), and the nine bits that ROL and ROR turn: the byte
with the carry above it. -/

namespace Sys2Proof.Machine

section
variable (v : Byte) (p : Flags)

theorem aslResult_eq :
    let w : Byte := BitVec.ofNat 8 (v.toNat * 2 % 256)
    aslResult v p =
      { value := w, flags := { p with n := w.getLsbD 7, z := decide (w = 0), c := v.getLsbD 7 } } := by
  intro w
  have hw : v <<< 1 = w := by
    apply BitVec.eq_of_toNat_eq
    simp [w, Nat.shiftLeft_eq]
  rw [aslResult, hw, Flags.setNZ_eq]

theorem lsrResult_eq :
    let w : Byte := BitVec.ofNat 8 (v.toNat / 2)
    lsrResult v p = { value := w, flags := { p with n := false, z := decide (w = 0), c := v.getLsbD 0 } } := by
  intro w
  have hw : v >>> 1 = w := by
    apply BitVec.eq_of_toNat_eq
    have := v.isLt
    simp [w, Nat.shiftRight_eq_div_pow]
    omega
  rw [lsrResult, hw]

theorem rolResult_eq :
    let w : Byte := BitVec.ofNat 8 (v.toNat * 2 % 256 + p.c.toNat)
    rolResult v p =
      { value := w, flags := { p with n := w.getLsbD 7, z := decide (w = 0), c := v.getLsbD 7 } } := by
  intro w
  have hw : (v <<< 1) + (BitVec.ofBool p.c).setWidth 8 = w := by
    apply BitVec.eq_of_toNat_eq
    simp [w, Nat.shiftLeft_eq]
  rw [rolResult, hw, Flags.setNZ_eq]

/-- N is the old carry, which is bit 7 of the result (R154). -/
theorem rorResult_eq :
    let w : Byte := BitVec.ofNat 8 (v.toNat / 2 + 128 * p.c.toNat)
    rorResult v p = { value := w, flags := { p with n := p.c, z := decide (w = 0), c := v.getLsbD 0 } } := by
  intro w
  have hlt := v.isLt
  have hc := p.c.toNat_le
  have hwn : w.toNat = v.toNat / 2 + 128 * p.c.toNat := by
    rw [BitVec.toNat_ofNat, Nat.mod_eq_of_lt (by omega)]
  have hin : (if p.c then 0x80 else 0 : Byte).toNat = 128 * p.c.toNat := by cases p.c <;> rfl
  have hw : (v >>> 1) + (if p.c then 0x80 else 0) = w := by
    apply BitVec.eq_of_toNat_eq
    rw [BitVec.toNat_add, hin]
    simp [w, Nat.shiftRight_eq_div_pow]
  have hn : w.msb = p.c := by
    rw [Bool.eq_iff_iff, byte_msb_iff, hwn, ← Bool.toNat_eq_one]
    omega
  rw [rorResult, hw, Flags.setNZ, hn]

/-! ### The nine bits -/

/-- A byte with the carry as its ninth bit (R153, R154). -/
def withCarry (v : Byte) (p : Flags) : BitVec 9 := .cons p.c v

/-- The second word is the first with its bits moved d places down, those below bit 0 to the top. -/
def Turned {w : Nat} (d : Nat) (x y : BitVec w) : Prop := ∀ k < w, y.getLsbD k = x.getLsbD ((k + d) % w)

theorem withCarry_toNat : (withCarry v p).toNat = p.c.toNat * 256 + v.toNat := by
  rw [withCarry, BitVec.toNat_cons', Nat.shiftLeft_eq]

theorem withCarry_inj {v w : Byte} {p q : Flags} (h : withCarry v p = withCarry w q) : v = w ∧ p.c = q.c := by
  constructor
  · simpa [withCarry] using congrArg (BitVec.setWidth 8) h
  · simpa [withCarry] using congrArg BitVec.msb h

/-- ROL moves the nine bits one place up, which is eight places down. -/
theorem rolResult_turned : Turned 8 (withCarry v p) (withCarry (rolResult v p).value (rolResult v p).flags) := by
  intro k hk
  have hvalue : (rolResult v p).value = v.shiftConcat p.c := by
    rw [rolResult_eq]
    apply BitVec.eq_of_toNat_eq
    simp [Nat.shiftLeft_eq]
  have hcarry : (rolResult v p).flags.c = v.getLsbD 7 := rfl
  rw [withCarry, withCarry, hvalue, hcarry, BitVec.getLsbD_cons, BitVec.getLsbD_shiftConcat, BitVec.getLsbD_cons]
  obtain rfl | rfl | ⟨h0, h8⟩ : k = 0 ∨ k = 8 ∨ 0 < k ∧ k < 8 := by omega
  · simp
  · simp
  · have hsource : (k + 8) % 9 = k - 1 := by omega
    have hk0 : k ≠ 0 := by omega
    have hk8 : k ≠ 8 := by omega
    have htop : k - 1 ≠ 8 := by omega
    simp [hsource, hk0, hk8, htop, h8]

/-- ROR moves the nine bits one place down. -/
theorem rorResult_turned : Turned 1 (withCarry v p) (withCarry (rorResult v p).value (rorResult v p).flags) := by
  intro k hk
  have hvalue : (rorResult v p).value = (withCarry v p).extractLsb' 1 8 := by
    rw [rorResult_eq]
    apply BitVec.eq_of_toNat_eq
    simp [withCarry_toNat, Nat.shiftRight_eq_div_pow]
    omega
  have hcarry : (rorResult v p).flags.c = v.getLsbD 0 := rfl
  rw [withCarry, hvalue, hcarry, BitVec.getLsbD_cons, BitVec.getLsbD_extractLsb']
  obtain rfl | h8 : k = 8 ∨ k < 8 := by omega
  · simp [withCarry, BitVec.getElem_cons]
  · have hsource : (k + 1) % 9 = 1 + k := by omega
    simp [hsource, h8, Nat.ne_of_lt h8]

end

/-- Turning a word by d places as often as it has bits restores it. -/
theorem iterate_of_turned {α : Type} {w d : Nat} {f : α → α} {bits : α → BitVec w}
    (hf : ∀ x, Turned d (bits x) (bits (f x))) (x : α) : bits (f^[w] x) = bits x := by
  have hn (n : Nat) : Turned (n * d) (bits x) (bits (f^[n] x)) := by
    induction n with
    | zero =>
      intro k hk
      rw [Nat.zero_mul, Nat.add_zero, Nat.mod_eq_of_lt hk, Function.iterate_zero_apply]
    | succ n ih =>
      intro k hk
      rw [Function.iterate_succ_apply', hf _ k hk, ih _ (Nat.mod_lt _ (by omega)), Nat.mod_add_mod]
      congr 2
      ring
  apply BitVec.eq_of_getLsbD_eq
  intro k hk
  rw [hn w k hk, Nat.add_mul_mod_self_left, Nat.mod_eq_of_lt hk]

end Sys2Proof.Machine

namespace Sys2Proof.Claims

open Sys2Proof.Machine

theorem runAll_replicate {n : Nat} {i : Instr} {s : State} {post : State → Prop} :
    runAll (List.replicate n i) s post ↔ post ((meaning i)^[n] s) := by
  induction n generalizing s with
  | zero => rfl
  | succ n ih => simp [List.replicate_succ, runAll, exec_eq_meaning, ih]

/-- Nine Accumulator rotates move the nine bits of A and C full circle. -/
theorem runAll_nine_restores {m : Mnemonic} {g : Byte → Flags → Alu} {i : Instr} {op : Byte} {d : Nat}
    (hop : Modifies m g) (hrow : HasRow i m .acc [op])
    (hg : ∀ v p, Turned d (withCarry v p) (withCarry (g v p).value (g v p).flags)) (s : State) :
    runAll (List.replicate 9 i) s fun t => t.a = s.a ∧ t.p.c = s.p.c := by
  have hturned (u : State) : Turned d (withCarry u.a u.p) (withCarry (meaning i u).a (meaning i u).p) := by
    rw [hop.meaning_of_acc hrow]
    exact hg u.a u.p
  exact runAll_replicate.2 (withCarry_inj (iterate_of_turned (bits := fun u : State => withCarry u.a u.p) hturned s))

end Sys2Proof.Claims
end

section
/-! PROOF. The obligations of 41_shift_rotate. -/

namespace Sys2Proof.Claims

open Sys2Proof.Machine

/-- Settles O17: ASL and LSR as numbers, on A and on a byte of memory. -/
theorem shiftResults : Obligations.ShiftResults := by
  intro s b1 b2
  have hasl v := aslResult_eq v s.p
  have hlsr v := lsrResult_eq v s.p
  exact ⟨implied_of_modifies modifies_asl hasRow_aslAcc hasl,
    fun f hf => modifyCompletes_of_modifies modifies_asl (aslForms_isMemoryOf b1 b2 f hf) hasl,
    implied_of_modifies modifies_lsr hasRow_lsrAcc hlsr,
    fun f hf => modifyCompletes_of_modifies modifies_lsr (lsrForms_isMemoryOf b1 b2 f hf) hlsr⟩

/-- Settles O18: ROL and ROR as numbers, on A and on a byte of memory, then as turns of nine bits. -/
theorem rotateResults : Obligations.RotateResults := by
  intro s b1 b2
  have hrol v := rolResult_eq v s.p
  have hror v := rorResult_eq v s.p
  exact ⟨implied_of_modifies modifies_rol hasRow_rolAcc hrol,
    fun f hf => modifyCompletes_of_modifies modifies_rol (rolForms_isMemoryOf b1 b2 f hf) hrol,
    implied_of_modifies modifies_ror hasRow_rorAcc hror,
    fun f hf => modifyCompletes_of_modifies modifies_ror (rorForms_isMemoryOf b1 b2 f hf) hror,
    runAll_nine_restores modifies_rol hasRow_rolAcc rolResult_turned s,
    runAll_nine_restores modifies_ror hasRow_rorAcc rorResult_turned s⟩

end Sys2Proof.Claims
end

section
/-! PROOF. The target of a branch as a number (30_encoding R111; 42_branch R161), and the frame of a jump, which a
branch is either way. -/

namespace Sys2Proof.Machine

open Sys2Proof.Claims

theorem sext16_toNat (b : Byte) : ((sext16 b).toNat : Int) = b.toInt % 65536 := by
  have h := BitVec.toInt_eq_toNat_cond (sext16 b)
  have := (sext16 b).isLt
  rw [sext16_toInt] at h
  split at h <;> omega

/-- The address after a two-byte instruction (10_state R25). -/
theorem word_add_two_toNat (w : Word) : (w + 2).toNat = (w.toNat + 2) % 65536 := BitVec.toNat_add w 2

theorem relativeTarget_toNat (pc0 : Word) (b : Byte) :
    ((relativeTarget pc0 b).toNat : Int) = (pc0.toNat + 2 + b.toInt) % 65536 := by
  have hsext := sext16_toNat b
  rw [relativeTarget, BitVec.toNat_add, word_add_two_toNat]
  omega

/-- The displacement counts only where the branch is taken (R161). -/
theorem State.branch_pc_toNat (s : State) (cond : Bool) (b1 : Byte) :
    ((s.branch cond b1).pc.toNat : Int) = (s.pc.toNat + 2 + (if cond then b1.toInt else 0)) % 65536 := by
  rw [State.branch_eq, State.jump_pc]
  cases cond
  case true => exact relativeTarget_toNat s.pc b1
  case false =>
    simp only [Bool.false_eq_true, if_false, word_add_two_toNat]
    omega

/-- A jump writes PC alone. -/
theorem State.jump_frame (s : State) (w : Word) :
    sameRegisters s (s.jump w) ∧ (s.jump w).p = s.p ∧ sameMemory s (s.jump w) ∧ sameInputs s (s.jump w)
      ∧ sameBus s (s.jump w) :=
  ⟨⟨rfl, rfl, rfl, rfl⟩, rfl, fun _ => rfl, ⟨rfl, rfl, rfl, rfl, rfl⟩, ⟨rfl, rfl⟩⟩

end Sys2Proof.Machine
end

section
/-! PROOF. The obligations of 42_branch. -/

namespace Sys2Proof.Claims

open Sys2Proof.Machine

/-- What an instruction with a row of the relative mode does, by the condition of its mnemonic (R160, R161). -/
theorem branch_of_hasRow {i : Instr} {m : Mnemonic} {op b1 : Byte} {s : State} {cond : Bool}
    (hrow : HasRow i m .rel [op, b1]) (hcond : branchTaken i s = cond) :
    decode [op, b1] = .instr i [] ∧
      ∃ t, exec i s = .next t
        ∧ (t.pc.toNat : Int) = (s.pc.toNat + 2 + (if cond then b1.toInt else 0)) % 65536
        ∧ sameRegisters s t ∧ t.p = s.p ∧ sameMemory s t ∧ sameInputs s t ∧ sameBus s t := by
  have hexec : exec i s = .next (s.branch cond b1) := by
    rw [exec_eq_meaning, meaning_of_rel s hrow.mode, hcond, hrow.operandBytes_eq, List.getD_cons_zero]
  refine ⟨hrow.code ▸ decode_encode i, s.branch cond b1, hexec, s.branch_pc_toNat cond b1, ?frame⟩
  rw [State.branch_eq]
  exact s.jump_frame _

/-- Settles O21: each of the eight has a row of the relative mode and the condition of its own flag. -/
theorem branchResults : Obligations.BranchResults := by
  intro s b1 op i cond hmem
  simp only [List.mem_cons, List.not_mem_nil, or_false, Prod.mk.injEq] at hmem
  obtain ⟨rfl, rfl, rfl⟩ | ⟨rfl, rfl, rfl⟩ | ⟨rfl, rfl, rfl⟩ | ⟨rfl, rfl, rfl⟩ | ⟨rfl, rfl, rfl⟩ | ⟨rfl, rfl, rfl⟩
    | ⟨rfl, rfl, rfl⟩ | ⟨rfl, rfl, rfl⟩ := hmem
  all_goals exact branch_of_hasRow ⟨rfl, rfl, rfl⟩ rfl

end Sys2Proof.Claims
end

section
/-! PROOF. The operation that the seven flag instructions share (43_flag R175): PC advances and the flags are
replaced. -/

namespace Sys2Proof.Machine

open Sys2Proof.Claims

/-- An advance of PC and a write of the flags leave the rest of the state. -/
theorem State.advance_setFlags_frame (s : State) (n : Word) (p : Flags) :
    sameMemory s ((s.advance n).setFlags p) ∧ sameInputs s ((s.advance n).setFlags p)
      ∧ sameBus s ((s.advance n).setFlags p) ∧ sameRegisters s ((s.advance n).setFlags p) :=
  ⟨fun _ => rfl, ⟨rfl, rfl, rfl, rfl, rfl⟩, ⟨rfl, rfl⟩, ⟨rfl, rfl, rfl, rfl⟩⟩

end Sys2Proof.Machine
end

section
/-! PROOF. The obligation of 43_flag. -/

namespace Sys2Proof.Claims

open Sys2Proof.Machine

/-- A one-byte instruction whose meaning is a write of the flags completes with those flags, and changes nothing
else. -/
theorem implied_of_setFlags {i : Instr} {op : Byte} {cycles : Nat} {s : State} {p : Flags} (hcode : encode i = [op])
    (hcycles : instrCycles i s = cycles)
    (hmeaning : meaning i s = (s.advance (.ofNat 16 i.bytes)).setFlags p) :
    implied op cycles i s fun t => t.p = p ∧ sameRegisters s t := by
  obtain ⟨hmemory, hinputs, hbus, hregisters⟩ := s.advance_setFlags_frame (.ofNat 16 i.bytes) p
  refine ⟨hcycles, hcode ▸ decode_encode i, _, hmeaning ▸ exec_eq_meaning i s, ?pc, hmemory, hinputs, hbus,
    State.setFlags_p _ p, hregisters⟩
  rw [← hcode, encode_length, State.setFlags_pc, State.advance_pc]

/-- Settles O22: the meaning of each of the seven is a write of the flags, with its own flag replaced (R176 to R182). -/
theorem flagInstructionResults : Obligations.FlagInstructionResults := by
  intro s
  refine ⟨?clc, ?cld, ?cli, ?clv, ?sec, ?sed, ?sei⟩
  all_goals exact implied_of_setFlags rfl rfl rfl

end Sys2Proof.Claims
end

section
/-! PROOF. The results of 44_incdec as numbers (R186, R189): a byte plus or minus one modulo 256, and the operands that
leave N or Z set. -/

namespace Sys2Proof.Machine

theorem byte_add_one_toNat (v : Byte) : (v + 1).toNat = (v.toNat + 1) % 256 := BitVec.toNat_add v 1

theorem byte_sub_one_toNat (v : Byte) : (v - 1).toNat = (v.toNat + 255) % 256 := by
  rw [Nat.add_comm]
  exact BitVec.toNat_sub v 1

/-- N as a comparison: bit 7 is the half of the range from 128 (00_scope R17). -/
theorem Flags.setNZ_eq_decide (p : Flags) (v : Byte) :
    p.setNZ v = { p with n := decide (128 ≤ v.toNat), z := decide (v = 0) } := by
  rw [Flags.setNZ, BitVec.msb_eq_decide]

section
variable (v : Byte) (p : Flags)

theorem decResult_eq :
    decResult v p =
      { value := BitVec.ofNat 8 ((v.toNat + 255) % 256)
        flags := { p with n := decide (v = 0 ∨ 0x80 < v.toNat), z := decide (v = 1) } } := by
  have hvalue : v - 1 = BitVec.ofNat 8 ((v.toNat + 255) % 256) := by
    rw [← byte_sub_one_toNat, BitVec.ofNat_toNat, BitVec.setWidth_eq]
  have hn : 128 ≤ (v - 1).toNat ↔ v = 0 ∨ 0x80 < v.toNat := by
    have := v.isLt
    have hzero : v = 0 ↔ v.toNat = 0 := BitVec.toNat_inj.symm
    rw [byte_sub_one_toNat, hzero]
    omega
  have hz : v - 1 = 0 ↔ v = 1 := sub_eq_zero
  rw [decResult, Flags.setNZ_eq_decide, decide_eq_decide.2 hn, decide_eq_decide.2 hz, hvalue]

theorem incResult_eq :
    incResult v p =
      { value := BitVec.ofNat 8 ((v.toNat + 1) % 256)
        flags := { p with n := decide (0x7F ≤ v.toNat ∧ v.toNat < 0xFF), z := decide (v = 0xFF) } } := by
  have hvalue : v + 1 = BitVec.ofNat 8 ((v.toNat + 1) % 256) := by
    rw [← byte_add_one_toNat, BitVec.ofNat_toNat, BitVec.setWidth_eq]
  have hn : 128 ≤ (v + 1).toNat ↔ 0x7F ≤ v.toNat ∧ v.toNat < 0xFF := by
    have := v.isLt
    rw [byte_add_one_toNat]
    omega
  have hz : v + 1 = 0 ↔ v = 0xFF := add_eq_zero_iff_eq_neg
  rw [incResult, Flags.setNZ_eq_decide, decide_eq_decide.2 hn, decide_eq_decide.2 hz, hvalue]

end

end Sys2Proof.Machine

namespace Sys2Proof.Claims

open Sys2Proof.Machine

theorem decForms_isMemoryOf (b1 b2 : Byte) : ∀ f ∈ decForms b1 b2, f.IsMemoryOf .dec := by
  simp [decForms, hasRow_iff, Instr.row, Instr.operandBytes]

theorem incForms_isMemoryOf (b1 b2 : Byte) : ∀ f ∈ incForms b1 b2, f.IsMemoryOf .inc := by
  simp [incForms, hasRow_iff, Instr.row, Instr.operandBytes]

theorem modifies_dec : Modifies .dec decResult := fun _ _ h => by simp only [meaning, h]
theorem modifies_inc : Modifies .inc incResult := fun _ _ h => by simp only [meaning, h]

/-- A one-byte instruction whose meaning changes PC, the registers and the flags alone completes with whatever holds of
its meaning. -/
theorem implied_of_registers {i : Instr} {op : Byte} {cycles : Nat} {s : State} {post : State → Prop}
    (hcode : encode i = [op]) (hcycles : instrCycles i s = cycles)
    (honly : let t := meaning i s
      t = { s.advance (.ofNat 16 i.bytes) with a := t.a, x := t.x, y := t.y, sp := t.sp, p := t.p })
    (hpost : post (meaning i s)) : implied op cycles i s post := by
  refine ⟨hcycles, hcode ▸ decode_encode i, meaning i s, exec_eq_meaning i s, ?pc, ?memory, ?inputs, ?bus, hpost⟩ <;>
    rw [honly]
  case pc => rw [← hcode, encode_length, State.advance_pc]
  case memory => exact fun _ => rfl
  case inputs => exact ⟨rfl, rfl, rfl, rfl, rfl⟩
  case bus => exact ⟨rfl, rfl⟩

end Sys2Proof.Claims
end

section
/-! PROOF. The obligations of 44_incdec. -/

namespace Sys2Proof.Claims

open Sys2Proof.Machine

/-- Settles O19: DEC and INC as numbers, on the byte at each form's address. -/
theorem incDecMemoryResults : Obligations.IncDecMemoryResults := by
  intro s b1 b2
  exact ⟨fun f hf => modifyCompletes_of_modifies modifies_dec (decForms_isMemoryOf b1 b2 f hf) (decResult_eq · s.p),
    fun f hf => modifyCompletes_of_modifies modifies_inc (incForms_isMemoryOf b1 b2 f hf) (incResult_eq · s.p)⟩

/-- Settles O20: the meaning of each of the four loads X or Y with its old value minus or plus one (R187, R188, R190,
R191). -/
theorem incDecRegisterResults : Obligations.IncDecRegisterResults := by
  intro s
  refine ⟨implied_of_registers rfl rfl rfl ?dex, implied_of_registers rfl rfl rfl ?dey,
    implied_of_registers rfl rfl rfl ?inx, implied_of_registers rfl rfl rfl ?iny⟩
  case dex => exact ⟨byte_sub_one_toNat s.x, rfl, rfl, rfl, s.p.setNZ_eq_decide (s.x - 1)⟩
  case dey => exact ⟨byte_sub_one_toNat s.y, rfl, rfl, rfl, s.p.setNZ_eq_decide (s.y - 1)⟩
  case inx => exact ⟨byte_add_one_toNat s.x, rfl, rfl, rfl, s.p.setNZ_eq_decide (s.x + 1)⟩
  case iny => exact ⟨byte_add_one_toNat s.y, rfl, rfl, rfl, s.p.setNZ_eq_decide (s.y + 1)⟩

end Sys2Proof.Claims
end

section
/-! PROOF. The pointer that JMP Indirect reads (45_jump_sub R197), and the two bytes that JSR leaves on the stack for
RTS (R198 to R200; 10_state R26). -/

namespace Sys2Proof.Machine

open Sys2Proof.Claims

theorem word_add_one_toNat (w : Word) : (w + 1).toNat = (w.toNat + 1) % 65536 := BitVec.toNat_add w 1

/-! ### The pointer of JMP Indirect -/

/-- The carry into the high byte that `JMP_INDIRECT_PAGE_WRAP` drops comes from the low byte 0xFF alone. -/
theorem mkWord_succ_of_ne {hi lo : Byte} (h : lo ≠ 0xFF) : mkWord hi (lo + 1) = mkWord hi lo + 1 := by
  have := hi.isLt
  have := lo.isLt
  have hlo : lo.toNat ≠ 0xFF := fun e => h (BitVec.eq_of_toNat_eq e)
  apply BitVec.eq_of_toNat_eq
  rw [word_add_one_toNat, mkWord_toNat, mkWord_toNat, byte_add_one_toNat]
  omega

/-- `Read16pw` (00_scope R15) reads one pair under either setting; the settings differ in the second address. -/
theorem State.read16pw_mkWord (s : State) (hi lo : Byte) :
    s.read16pw (mkWord hi lo) =
      s.readPair (mkWord hi lo)
        (if s.params.jmpIndirectPageWrap then mkWord hi (lo + 1) else mkWord hi lo + 1) := by
  rw [State.read16pw, State.read16, hiByte_mkWord, loByte_mkWord]
  split <;> rfl

/-- A jump through a pointer writes PC, and its two reads, the low byte's first, are all that the bus sees. -/
theorem State.readPair_jump_frame (s : State) (low high target : Word) :
    let t := (s.readPair low high).after.jump target
    sameRegisters s t ∧ t.p = s.p ∧ sameMemory s t ∧ sameInputs s t
      ∧ sameBus ((s.load low).after.load high).after t :=
  ⟨⟨rfl, rfl, rfl, rfl⟩, rfl, fun _ => rfl, ⟨rfl, rfl, rfl, rfl, rfl⟩, ⟨rfl, rfl⟩⟩

/-! ### The word that JSR pushes -/

theorem stackAddr_inj {u v : Byte} : stackAddr u = stackAddr v ↔ u = v := by
  refine ⟨fun h => BitVec.eq_of_toNat_eq ?_, congrArg stackAddr⟩
  have hnat := congrArg BitVec.toNat h
  rw [stackAddr_toNat, stackAddr_toNat] at hnat
  omega

theorem State.push_stored_same (s : State) (v : Byte) : (s.push v).stored (stackAddr s.sp) = v :=
  s.store_stored_ram v (s.kindAt_stackAddr s.sp)

theorem State.push_stored_other (s : State) (v : Byte) {addr : Word} (h : addr ≠ stackAddr s.sp) :
    (s.push v).stored addr = s.stored addr :=
  s.store_stored_other v h

section
variable (s : State) (w : Word)

@[simp] theorem State.pushWord_sp : (s.pushWord w).sp = s.sp - 2 := by
  rw [State.pushWord, State.push_sp, State.push_sp, sub_sub]
  rfl

theorem State.pushWord_stored_low : (s.pushWord w).stored (stackAddr (s.sp - 1)) = loByte w :=
  State.push_stored_same (s.push (hiByte w)) (loByte w)

/-- The second push goes to another address than the first, also where S wraps. -/
theorem State.pushWord_stored_high : (s.pushWord w).stored (stackAddr s.sp) = hiByte w := by
  have hne : stackAddr s.sp ≠ stackAddr (s.push (hiByte w)).sp := by
    rw [State.push_sp, Ne, stackAddr_inj]
    exact fun e => absurd (sub_eq_self.1 e.symm) (by decide)
  rw [State.pushWord, State.push_stored_other _ _ hne, State.push_stored_same]

theorem State.pushWord_stored_other {addr : Word} (hhigh : addr ≠ stackAddr s.sp)
    (hlow : addr ≠ stackAddr (s.sp - 1)) : (s.pushWord w).stored addr = s.stored addr := by
  rw [State.pushWord, State.push_stored_other _ _ hlow, State.push_stored_other _ _ hhigh]

/-- The stack is RAM, so a push reaches no device and no input. -/
theorem State.pushWord_frame : sameInputs s (s.pushWord w) ∧ sameBus s (s.pushWord w) := by
  rw [State.pushWord_eq]
  exact ⟨⟨rfl, rfl, rfl, rfl, rfl⟩, ⟨rfl, rfl⟩⟩

/-- The word stands where two pulls look for it, low byte first. -/
theorem State.pushWord_top :
    (s.pushWord w).stored (stackAddr ((s.pushWord w).sp + 1)) = loByte w
      ∧ (s.pushWord w).stored (stackAddr ((s.pushWord w).sp + 2)) = hiByte w := by
  have hlow : s.sp - 2 + 1 = s.sp - 1 := by rw [sub_add]; rfl
  have hhigh : s.sp - 2 + 2 = s.sp := sub_add_cancel s.sp 2
  rw [State.pushWord_sp, hlow, hhigh]
  exact ⟨s.pushWord_stored_low w, s.pushWord_stored_high w⟩

end

/-! ### The word that RTS pulls -/

/-- RTS (R199) writes S and PC alone. -/
theorem State.returnFromSubroutine_eq (s : State) :
    s.returnFromSubroutine =
      { s with
        sp := s.sp + 2
        pc := mkWord (s.stored (stackAddr (s.sp + 2))) (s.stored (stackAddr (s.sp + 1))) + 1 } := by
  have hsp : s.sp + 1 + 1 = s.sp + 2 := add_assoc s.sp 1 1
  rw [State.returnFromSubroutine, State.pullWord_eq, hsp]
  rfl

/-- RTS goes one past the word whose two bytes stand above S. -/
theorem State.returnFromSubroutine_pc_of_top {s : State} {w : Word}
    (hlow : s.stored (stackAddr (s.sp + 1)) = loByte w) (hhigh : s.stored (stackAddr (s.sp + 2)) = hiByte w) :
    s.returnFromSubroutine.pc = w + 1 := by
  rw [State.returnFromSubroutine_eq, hlow, hhigh, mkWord_hiByte_loByte]

/-! ### The four instructions -/

theorem exec_jmpAbs (oper : Word) (s : State) : exec (.jmpAbs oper) s = .next (s.jump oper) := rfl

theorem exec_jmpInd (oper : Word) (s : State) :
    exec (.jmpInd oper) s = .next ((s.read16pw oper).after.jump (s.read16pw oper).addr) := rfl

theorem exec_jsr (oper : Word) (s : State) : exec (.jsr oper) s = .next ((s.pushWord (s.pc + 2)).jump oper) :=
  rfl

theorem exec_rts (s : State) : exec .rts s = .next s.returnFromSubroutine := rfl

end Sys2Proof.Machine
end

section
/-! PROOF. The obligations of 45_jump_sub. -/

namespace Sys2Proof.Claims

open Sys2Proof.Machine

/-- An instruction's bytes, written out, are decoded to it. -/
theorem decode_of_encode_eq {i : Instr} {code : List Byte} (h : encode i = code) : decode code = .instr i [] :=
  h ▸ decode_encode i

/-- What code that leaves S and the two bytes above it keeps, byte by byte. -/
theorem sameTop_two {t u : State} (h : sameTop 2 t u) :
    u.sp = t.sp ∧ u.stored (stackAddr (u.sp + 1)) = t.stored (stackAddr (t.sp + 1))
      ∧ u.stored (stackAddr (u.sp + 2)) = t.stored (stackAddr (t.sp + 2)) := by
  obtain ⟨hsp, htop⟩ := h
  rw [hsp]
  exact ⟨rfl, htop 1 (by omega) (by omega), htop 2 (by omega) (by omega)⟩

/-- Settles O23: JMP Indirect is a jump through the pair of bytes that `State.read16pw_mkWord` names. -/
theorem jumpResults : Obligations.JumpResults := by
  intro s b1 b2 ptr second lo hi
  have hpair : s.read16pw ptr = s.readPair ptr second := s.read16pw_mkWord b2 b1
  refine ⟨decode_of_encode_eq ?absCode, ⟨_, exec_jmpAbs ptr s, rfl, s.jump_frame ptr⟩,
    decode_of_encode_eq ?indCode, ⟨_, exec_jmpInd ptr s, ?indPc, ?indFrame⟩, mkWord_succ_of_ne⟩
  case absCode => simp [ptr, encode, Instr.row, Instr.operandBytes]
  case indCode => simp [ptr, encode, Instr.row, Instr.operandBytes]
  case indPc =>
    rw [hpair]
    exact mkWord_toNat hi.value lo.value
  case indFrame =>
    rw [hpair]
    exact s.readPair_jump_frame ptr second _

/-- Settles O24: JSR is a push of the address of its last byte (R198) and a jump, which leaves what was pushed. -/
theorem jsrResult : Obligations.JsrResult := by
  intro s b1 b2
  obtain ⟨ha, hx, hy, hp⟩ := s.pushWord_keeps (s.pc + 2)
  obtain ⟨hinputs, hbus⟩ := s.pushWord_frame (s.pc + 2)
  refine ⟨decode_of_encode_eq ?code, _, exec_jsr _ s, rfl, s.pushWord_stored_high _, s.pushWord_stored_low _,
    fun addr => s.pushWord_stored_other _, ?sp, ha, hx, hy, hp, hinputs, hbus⟩
  case code => simp [encode, Instr.row, Instr.operandBytes]
  case sp =>
    have hsub : (s.sp - 2).toNat = (254 + s.sp.toNat) % 256 := BitVec.toNat_sub s.sp 2
    rw [State.jump_sp, State.pushWord_sp, hsub]
    omega

/-- Settles O25: the pulled word and S as numbers. -/
theorem rtsResult : Obligations.RtsResult := by
  intro s
  refine ⟨decode_encode .rts, _, exec_rts s, ?_⟩
  rw [State.returnFromSubroutine_eq]
  refine ⟨?pc, BitVec.toNat_add s.sp 2, rfl, rfl, rfl, rfl, fun _ => rfl, ⟨rfl, rfl, rfl, rfl, rfl⟩, ⟨rfl, rfl⟩⟩
  rw [word_add_one_toNat, mkWord_toNat]

/-- Settles O26: the two bytes above S are still the word that JSR pushed, pc0 + 2, and RTS goes one past it (R200). -/
theorem rtsReturnsAfterJsr : Obligations.RtsReturnsAfterJsr := by
  intro s t u oper hjsr htop
  rw [exec_jsr] at hjsr
  obtain rfl := Host.Outcome.next.inj hjsr
  obtain ⟨hsp, hlow, hhigh⟩ := sameTop_two htop
  obtain ⟨hpushedLow, hpushedHigh⟩ := s.pushWord_top (s.pc + 2)
  refine ⟨_, exec_rts u, ?pc, ?sp⟩
  case pc =>
    calc u.returnFromSubroutine.pc
        = s.pc + 2 + 1 :=
          State.returnFromSubroutine_pc_of_top (hlow.trans hpushedLow) (hhigh.trans hpushedHigh)
      _ = s.pc + 3 := add_assoc s.pc 2 1
  case sp =>
    rw [State.returnFromSubroutine_eq]
    calc u.sp + 2
        = (s.pushWord (s.pc + 2)).sp + 2 := congrArg (· + 2) hsp
      _ = s.sp := by rw [State.pushWord_sp, sub_add_cancel]

end Sys2Proof.Claims
end

section
/-! PROOF. The forms of the loads and stores, and their operations (46_load_store R205): a load of a register with the
operand, and a write of a register at the effective address, where no flag changes. -/

namespace Sys2Proof.Machine

open Sys2Proof.Claims

/-- Neither a store's address nor its write depends on PC. -/
theorem store_effectiveAddr_advance (i : Instr) (s : State) (n : Word) (v : Byte) :
    (effectiveAddr i (s.advance n)).store v = (s.store (effectiveAddr i s).addr v).advance n := by
  rw [Located.store_eq, effectiveAddr_after, effectiveAddr_advance]
  rfl

/-- A write changes memory and the device history alone. -/
theorem State.store_frame (s : State) (addr : Word) (v : Byte) :
    let t := s.store addr v
    sameRegisters s t ∧ t.p = s.p ∧ sameInputs s t :=
  ⟨⟨rfl, rfl, rfl, rfl⟩, rfl, rfl, rfl, rfl, rfl, rfl⟩

end Sys2Proof.Machine

namespace Sys2Proof.Claims

open Sys2Proof.Machine

section
variable (b1 b2 : Byte)

theorem ldaForms_isOf : ∀ f ∈ ldaForms b1 b2, f.IsOf .lda := by
  simp [ldaForms, hasRow_iff, Instr.row, Instr.operandBytes]

theorem ldxForms_isOf : ∀ f ∈ ldxForms b1 b2, f.IsOf .ldx := by
  simp [ldxForms, hasRow_iff, Instr.row, Instr.operandBytes]

theorem ldyForms_isOf : ∀ f ∈ ldyForms b1 b2, f.IsOf .ldy := by
  simp [ldyForms, hasRow_iff, Instr.row, Instr.operandBytes]

theorem staForms_isOf : ∀ f ∈ staForms b1 b2, f.IsOf .sta := by
  simp [staForms, hasRow_iff, Instr.row, Instr.operandBytes]

theorem stxForms_isOf : ∀ f ∈ stxForms b1 b2, f.IsOf .stx := by
  simp [stxForms, hasRow_iff, Instr.row, Instr.operandBytes]

theorem styForms_isOf : ∀ f ∈ styForms b1 b2, f.IsOf .sty := by
  simp [styForms, hasRow_iff, Instr.row, Instr.operandBytes]

end

theorem reads_lda : Reads .lda lda := ⟨by decide, fun h _ => by simp only [meaning, h]⟩
theorem reads_ldx : Reads .ldx ldx := ⟨by decide, fun h _ => by simp only [meaning, h]⟩
theorem reads_ldy : Reads .ldy ldy := ⟨by decide, fun h _ => by simp only [meaning, h]⟩

/-- A mnemonic's store: what its instructions leave is a register written at the effective address. -/
def Stores (m : Mnemonic) (r : State → Byte) : Prop :=
  ∀ (i : Instr) (s : State), i.row.mnemonic = m →
    meaning i s = (effectiveAddr i (s.advance (.ofNat 16 i.bytes))).store (r s)

theorem stores_sta : Stores .sta State.a := fun _ _ h => by simp only [meaning, h]
theorem stores_stx : Stores .stx State.x := fun _ _ h => by simp only [meaning, h]
theorem stores_sty : Stores .sty State.y := fun _ _ h => by simp only [meaning, h]

/-- The three stores are one argument: the form completes with its register written at its address, and with the frame
of one write. -/
theorem completes_of_stores {m : Mnemonic} {r : State → Byte} {f : AddrForm} (hop : Stores m r) (hf : f.IsOf m)
    (s : State) :
    completes f.code f.instr s fun t =>
      sameRegisters s t ∧ t.p = s.p ∧ sameInputs s t ∧ wroteOnly s (f.ea s).after t (f.ea s).addr (r s) := by
  have hafter : (f.ea s).after = s := by rw [← hf.address, effectiveAddr_after]
  have hmeaning := hop f.instr s hf.mnemonic
  rw [store_effectiveAddr_advance, hf.address] at hmeaning
  refine ⟨hf.code ▸ decode_encode f.instr, meaning f.instr s, exec_eq_meaning _ _, ?pc, ?post⟩ <;> rw [hmeaning]
  case pc =>
    rw [← hf.code, encode_length]
    rfl
  case post =>
    obtain ⟨hregisters, hflags, hinputs⟩ := s.store_frame (f.ea s).addr (r s)
    rw [hafter]
    exact ⟨hregisters, hflags, hinputs, s.store_wroteOnly (f.ea s).addr (r s)⟩

end Sys2Proof.Claims
end

section
/-! PROOF. The obligations of 46_load_store. -/

namespace Sys2Proof.Claims

open Sys2Proof.Machine

/-- Settles O27: each load's operation is the operand put in its register, with N and Z as R206 to R208 give them. -/
theorem loadResults : Obligations.LoadResults := by
  intro s b1 b2
  refine ⟨fun f hf => readCompletes_of_reads reads_lda (ldaForms_isOf b1 b2 f hf) fun v pc k io => ?lda,
    fun f hf => readCompletes_of_reads reads_ldx (ldxForms_isOf b1 b2 f hf) fun v pc k io => ?ldx,
    fun f hf => readCompletes_of_reads reads_ldy (ldyForms_isOf b1 b2 f hf) fun v pc k io => ?ldy⟩
  case lda =>
    rw [lda_eq]
    exact ⟨rfl, rfl, rfl, rfl, s.p.setNZ_eq_decide v⟩
  case ldx =>
    rw [ldx_eq]
    exact ⟨rfl, rfl, rfl, rfl, s.p.setNZ_eq_decide v⟩
  case ldy =>
    rw [ldy_eq]
    exact ⟨rfl, rfl, rfl, rfl, s.p.setNZ_eq_decide v⟩

/-- Settles O28, by the register stored; the indexed rows of STA have no page-crossing penalty (R209). -/
theorem storeResults : Obligations.StoreResults := by
  intro s b1 b2
  refine ⟨?_, rfl, rfl, rfl⟩
  rintro _ f (⟨rfl, hf⟩ | ⟨rfl, hf⟩ | ⟨rfl, hf⟩)
  · exact completes_of_stores stores_sta (staForms_isOf b1 b2 f hf) s
  · exact completes_of_stores stores_stx (stxForms_isOf b1 b2 f hf) s
  · exact completes_of_stores stores_sty (styForms_isOf b1 b2 f hf) s

end Sys2Proof.Claims
end

section
/-! PROOF. The byte that PHP pushes and PLP reads back (00_scope R17), the byte above S that a pull reads, and the frame
of a push (10_state R26; 47_stack_transfer R216 to R219). -/

namespace Sys2Proof.Machine

open Sys2Proof.Claims

/-! ### P as a byte -/

/-- Each flag weighs its bit; bit 5 is always set, and bit 4 is the B that the push gives. -/
theorem Flags.pack_toNat (p : Flags) (b : Bool) :
    (p.pack b).toNat =
      128 * p.n.toNat + 64 * p.v.toNat + 32 + 16 * b.toNat + 8 * p.d.toNat + 4 * p.i.toNat + 2 * p.z.toNat
        + p.c.toNat := by
  obtain ⟨n, v, d, i, z, c⟩ := p
  revert n v d i z c b
  decide

/-- Every flag is a bit of the byte, so bits 5 and 4 do not matter (10_state R33, R34). -/
theorem Flags.unpack_eq (v : Byte) :
    Flags.unpack v =
      { n := v.getLsbD 7, v := v.getLsbD 6, d := v.getLsbD 3, i := v.getLsbD 2, z := v.getLsbD 1, c := v.getLsbD 0 } :=
  rfl

theorem Flags.setNZ_eq_decide_toNat (p : Flags) (v : Byte) :
    p.setNZ v = { p with n := decide (128 ≤ v.toNat), z := decide (v.toNat = 0) } := by
  rw [Flags.setNZ_eq_decide, decide_eq_decide.2 BitVec.toNat_inj.symm]
  rfl

/-! ### The stack addresses as numbers -/

theorem stackAddr_eq_ofNat (sp : Byte) : stackAddr sp = BitVec.ofNat 16 (0x100 + sp.toNat) := by
  rw [← stackAddr_toNat, BitVec.ofNat_toNat, BitVec.setWidth_eq]

theorem State.stored_stackAddr (s : State) (sp : Byte) : s.stored (stackAddr sp) = s.mem.read (0x100 + sp.toNat) := by
  rw [State.stored, stackAddr_toNat]

/-- The byte that a pull returns; S wraps before the read. -/
theorem State.stored_stackAddr_succ (s : State) :
    s.stored (stackAddr (s.sp + 1)) = s.mem.read (0x100 + (s.sp.toNat + 1) % 256) := by
  rw [State.stored_stackAddr, byte_add_one_toNat]

/-! ### Pushes and pulls -/

theorem State.push_sp_toInt (s : State) (v : Byte) :
    ((s.push v).sp.toNat : Int) = ((s.sp.toNat : Int) - 1) % 256 := by
  rw [State.push_sp, byte_sub_one_toNat]
  omega

/-- The stack is RAM, so a push reaches no device and no input. -/
theorem State.push_frame (s : State) (v : Byte) : sameInputs s (s.push v) ∧ sameBus s (s.push v) := by
  rw [State.push_eq]
  exact ⟨⟨rfl, rfl, rfl, rfl, rfl⟩, ⟨rfl, rfl⟩⟩

/-- PLA (47_stack_transfer R218) writes A, S and, where `PLA_SETS_NZ` is true, N and Z. -/
theorem State.pullA_eq_stored (s : State) :
    s.pullA =
      { s with
        a := s.stored (stackAddr (s.sp + 1))
        sp := s.sp + 1
        p := if s.params.plaSetsNZ then s.p.setNZ (s.stored (stackAddr (s.sp + 1))) else s.p } := by
  rw [State.pullA, State.pull_eq]
  split <;> rfl

/-- PLP (47_stack_transfer R219) writes S and the flags alone. -/
theorem State.pullP_eq_stored (s : State) :
    s.pullP = { s with sp := s.sp + 1, p := Flags.unpack (s.stored (stackAddr (s.sp + 1))) } := by
  rw [State.pullP_eq, State.pull_eq]
  rfl

end Sys2Proof.Machine
end

section
/-! PROOF. The obligations of 47_stack_transfer. -/

namespace Sys2Proof.Claims

open Sys2Proof.Machine

/-- A one-byte instruction whose meaning is a push completes with that byte at 0x0100 + S and S one lower, and changes
nothing else. -/
theorem completes_of_push {i : Instr} {op v : Byte} {s : State} (hcode : encode i = [op])
    (hmeaning : meaning i s = (s.advance (.ofNat 16 i.bytes)).push v) :
    completes [op] i s fun t =>
      (∀ b : Word, b.toNat ≠ 0x100 + s.sp.toNat → t.stored b = s.stored b)
      ∧ t.stored (BitVec.ofNat 16 (0x100 + s.sp.toNat)) = v
      ∧ (t.sp.toNat : Int) = ((s.sp.toNat : Int) - 1) % 256
      ∧ t.a = s.a ∧ t.x = s.x ∧ t.y = s.y ∧ t.p = s.p ∧ sameInputs s t ∧ sameBus s t := by
  obtain ⟨hinputs, hbus⟩ := (s.advance (.ofNat 16 i.bytes)).push_frame v
  refine ⟨decode_of_encode_eq hcode, (s.advance (.ofNat 16 i.bytes)).push v, hmeaning ▸ exec_eq_meaning i s, ?pc,
    fun b hb => ?other, ?same, State.push_sp_toInt _ v, rfl, rfl, rfl, rfl, hinputs, hbus⟩
  case pc => rw [← hcode, encode_length, State.push_pc, State.advance_pc]
  case other =>
    have hne : b ≠ stackAddr s.sp := fun e => hb (e ▸ stackAddr_toNat s.sp)
    exact State.push_stored_other _ v hne
  case same =>
    rw [← stackAddr_eq_ofNat]
    exact State.push_stored_same _ v

/-- Settles O29: the meaning of PHA and of PHP is a push, of A and of P with B set (R216, R217). -/
theorem pushResults : Obligations.PushResults := by
  intro s
  refine ⟨fun op v i hmem => ?push, s.p.pack_toNat true⟩
  simp only [List.mem_cons, List.not_mem_nil, or_false, Prod.mk.injEq] at hmem
  obtain ⟨rfl, rfl, rfl⟩ | ⟨rfl, rfl, rfl⟩ := hmem
  all_goals exact completes_of_push rfl rfl

/-- Settles O30: PLA and PLP change PC, S, A and the flags alone; the byte pulled stands where S + 1 modulo 256
points. -/
theorem pullResults : Obligations.PullResults := by
  intro s v
  have hv : s.stored (stackAddr (s.sp + 1)) = v := s.stored_stackAddr_succ
  have hpla : meaning .pla s = _ := (s.advance 1).pullA_eq_stored
  have hplp : meaning .plp s = _ := (s.advance 1).pullP_eq_stored
  refine ⟨implied_of_registers rfl rfl ?plaOnly ?pla, implied_of_registers rfl rfl ?plpOnly ?plp⟩
  case plaOnly => rw [hpla]; rfl
  case plpOnly => rw [hplp]; rfl
  case pla =>
    rw [hpla, ← s.p.setNZ_eq_decide, ← hv]
    exact ⟨rfl, rfl, rfl, byte_add_one_toNat s.sp, rfl⟩
  case plp =>
    rw [hplp, ← Flags.unpack_eq, ← hv]
    exact ⟨rfl, rfl, rfl, byte_add_one_toNat s.sp, rfl⟩

/-- Settles O31: the meaning of each transfer puts the source in the destination; all but TXS set N and Z from it (R220
to R225), and NOP's meaning is the advance of PC alone (R231). -/
theorem transferAndNopResults : Obligations.TransferAndNopResults := by
  intro s nz
  have hnz : ∀ v, s.p.setNZ v = nz v := s.p.setNZ_eq_decide_toNat
  refine ⟨implied_of_registers rfl rfl rfl ?tax, implied_of_registers rfl rfl rfl ?tay,
    implied_of_registers rfl rfl rfl ?tsx, implied_of_registers rfl rfl rfl ?txa,
    implied_of_registers rfl rfl rfl ?txs, implied_of_registers rfl rfl rfl ?tya,
    implied_of_registers rfl rfl rfl ?nop⟩
  case tax => exact ⟨rfl, hnz s.a, rfl, rfl, rfl⟩
  case tay => exact ⟨rfl, hnz s.a, rfl, rfl, rfl⟩
  case tsx => exact ⟨rfl, hnz s.sp, rfl, rfl, rfl⟩
  case txa => exact ⟨rfl, hnz s.x, rfl, rfl, rfl⟩
  case txs => exact ⟨rfl, rfl, rfl, rfl, rfl⟩
  case tya => exact ⟨rfl, hnz s.y, rfl, rfl, rfl⟩
  case nop => exact ⟨⟨rfl, rfl, rfl, rfl⟩, rfl⟩

end Sys2Proof.Claims
end

section
/-! PROOF. The pending-interrupt state and the schedule as one part of the state (10_state R40, R41): sampling replaces
it, and the fetch and every instruction commute with replacing it, so that none of them reads or writes it. -/

namespace Sys2Proof.Machine

open Sys2Proof.Claims

/-- The pending-interrupt state of 10_state R40 and the schedule still to come. -/
structure Inputs where
  irqLine : Bool
  nmiPending : Bool
  resetPending : Bool
  schedule : List BoundaryInput

def State.inputs (s : State) : Inputs := ⟨s.irqLine, s.nmiPending, s.resetPending, s.schedule⟩

/-- The state with other inputs. -/
def State.withInputs (s : State) (inp : Inputs) : State :=
  { s with
    irqLine := inp.irqLine
    nmiPending := inp.nmiPending
    resetPending := inp.resetPending
    schedule := inp.schedule }

@[simp] theorem State.inputs_withInputs (s : State) (inp : Inputs) : (s.withInputs inp).inputs = inp := rfl

theorem sameInputs_iff {s t : State} : sameInputs s t ↔ t.inputs = s.inputs ∧ t.params = s.params := by
  simp only [sameInputs, State.inputs, Inputs.mk.injEq, and_assoc]

/-- Sampling replaces the inputs and nothing else (60_exceptions R242). -/
theorem State.sampleInputs_eq (s : State) : s.sampleInputs = s.withInputs s.sampleInputs.inputs := by
  rcases s.sampleInputs_cases with ⟨_, h⟩ | ⟨b, rest, _, h⟩ <;> rw [h] <;> rfl

theorem State.sampleInputs_of_cons {s : State} {b : BoundaryInput} {rest : List BoundaryInput}
    (h : s.schedule = b :: rest) :
    s.sampleInputs =
      s.withInputs ⟨b.irqLine, s.nmiPending || b.nmiEdge, s.resetPending || b.resetRequest, rest⟩ := by
  rw [State.sampleInputs, h]
  rfl

theorem State.sampleInputs_of_nil {s : State} (h : s.schedule = []) : s.sampleInputs = s := by
  rw [State.sampleInputs, h]

@[simp] theorem State.sampleInputs_p (s : State) : s.sampleInputs.p = s.p := by
  rw [State.sampleInputs_eq]
  rfl

/-! ### What commutes with replacing the inputs -/

section
variable (i : Instr) (s : State) (inp : Inputs)

theorem effectiveAddr_withInputs :
    effectiveAddr i (s.withInputs inp) = { addr := (effectiveAddr i s).addr, after := s.withInputs inp } := by
  have haddr : (effectiveAddr i (s.withInputs inp)).addr = (effectiveAddr i s).addr := by
    unfold effectiveAddr
    split <;> rfl
  rw [← haddr]
  exact congrArg (Located.mk _) (effectiveAddr_after i _)

theorem operand_withInputs :
    operand i (s.withInputs inp) =
      { value := (operand i s).value, after := (operand i s).after.withInputs inp } := by
  unfold operand
  split
  · rfl
  · rw [effectiveAddr_withInputs]
    simp only [Located.load_eq, effectiveAddr_after]
    rfl

theorem modifyOperand_withInputs (f : Byte → Flags → Alu) :
    modifyOperand i (s.withInputs inp) f = (modifyOperand i s f).withInputs inp := by
  unfold modifyOperand
  split
  · rfl
  · rw [effectiveAddr_withInputs]
    simp only [Located.modify_eq, Located.load_eq, effectiveAddr_after]
    rfl

theorem State.read16pw_withInputs (ptr : Word) :
    (s.withInputs inp).read16pw ptr =
      { addr := (s.read16pw ptr).addr, after := (s.read16pw ptr).after.withInputs inp } := by
  have hp : (s.withInputs inp).params = s.params := rfl
  unfold State.read16pw
  rw [hp]
  split <;> rfl

theorem jumpOperand_withInputs : jumpOperand i (s.withInputs inp) = (jumpOperand i s).withInputs inp := by
  unfold jumpOperand State.jumpIndirect
  rw [State.read16pw_withInputs]
  split <;> rfl

/-- An instruction's meaning commutes with replacing the inputs (60_exceptions R243). -/
theorem meaning_withInputs : meaning i (s.withInputs inp) = (meaning i s).withInputs inp := by
  have hadv : (s.withInputs inp).advance (.ofNat 16 i.bytes) = (s.advance (.ofNat 16 i.bytes)).withInputs inp := rfl
  cases hm : i.row.mnemonic
  case asl | lsr | rol | ror | inc | dec =>
    simp only [meaning, hm, hadv]
    exact modifyOperand_withInputs i _ inp _
  case jmp =>
    simp only [meaning, hm]
    exact jumpOperand_withInputs i s inp
  all_goals
    simp only [meaning, hm, hadv, operand_withInputs, effectiveAddr_withInputs, effectiveAddr_after, State.branch_eq,
      State.pullA_eq, Located.store_eq] <;> rfl

theorem State.readBytes_withInputs (n : Nat) (addr : Word) :
    State.readBytes n addr (s.withInputs inp) =
      ((State.readBytes n addr s).1, (State.readBytes n addr s).2.withInputs inp) := by
  induction n generalizing addr s with
  | zero => rfl
  | succ n ih =>
    have hload : (s.withInputs inp).load addr =
        { value := (s.load addr).value, after := (s.load addr).after.withInputs inp } := rfl
    simp only [State.readBytes, hload, ih]

/-- What commutes with replacing the inputs keeps them. -/
theorem State.inputs_of_commutes {f : State → State} (h : ∀ s inp, f (s.withInputs inp) = (f s).withInputs inp) :
    (f s).inputs = s.inputs := by
  have hf : f s = (f s).withInputs s.inputs := h s s.inputs
  rw [hf, State.inputs_withInputs]

theorem meaning_sameInputs : sameInputs s (meaning i s) :=
  sameInputs_iff.2 ⟨s.inputs_of_commutes (meaning_withInputs i), (meaning_writes i s).params⟩

theorem State.readBytes_inputs (n : Nat) (addr : Word) : (State.readBytes n addr s).2.inputs = s.inputs :=
  s.inputs_of_commutes (f := fun s => (State.readBytes n addr s).2)
    fun s inp => congrArg Prod.snd (s.readBytes_withInputs inp n addr)

end

/-! ### The fetch -/

/-- The fetch answers an instruction exactly where it reads the instruction's bytes (30_encoding R99). -/
theorem State.fetch_eq_instr_iff {s after : State} {i : Instr} :
    s.fetch = .instr i after ↔ State.readBytes i.bytes s.pc s = (encode i, after) := by
  refine ⟨fun h => ?_, State.fetch_of_readBytes⟩
  by_cases hop : s.peek s.pc ∈ unlistedOpcodes
  · rw [State.fetch_of_unlisted hop] at h
    cases h
  · obtain ⟨j, hj⟩ := State.exists_readBytes_of_listed hop
    have hread : State.readBytes j.bytes s.pc s = (encode j, _) := Prod.ext hj rfl
    rw [State.fetch_of_readBytes hread] at h
    cases h
    exact hread

theorem State.fetch_withInputs {s after : State} {i : Instr} (inp : Inputs) (h : s.fetch = .instr i after) :
    (s.withInputs inp).fetch = .instr i (after.withInputs inp) := by
  rw [State.fetch_eq_instr_iff] at h ⊢
  have hpc : (s.withInputs inp).pc = s.pc := rfl
  rw [hpc, State.readBytes_withInputs, h]

theorem State.fetch_inputs {s after : State} {i : Instr} (h : s.fetch = .instr i after) : after.inputs = s.inputs := by
  have hread := s.readBytes_inputs i.bytes s.pc
  rwa [State.fetch_eq_instr_iff.1 h] at hread

end Sys2Proof.Machine
end

section
/-! PROOF. One boundary by its event (60_exceptions R242, R245): when each event comes, and what the step is then. -/

namespace Sys2Proof.Machine

open Sys2Proof.Claims

/-! ### When each event comes -/

theorem State.event_of_reset {s : State} (hr : s.resetPending = true) : s.event = .reset := by
  simp [State.event, hr]

theorem State.event_of_nmi {s : State} (hr : s.resetPending = false) (hn : s.nmiPending = true) : s.event = .nmi := by
  simp [State.event, hr, hn]

theorem State.event_of_irq {s : State} (hr : s.resetPending = false) (hn : s.nmiPending = false)
    (hi : s.irqLine = true) (hp : s.p.i = false) : s.event = .irq := by
  simp [State.event, hr, hn, hi, hp]

/-- The last branch of 60_exceptions R242. -/
theorem State.event_eq_instruction_iff {s : State} :
    s.event = .instruction ↔
      s.resetPending = false ∧ s.nmiPending = false ∧ (s.irqLine = false ∨ s.p.i = true) := by
  cases hr : s.resetPending
  case true => simp [State.event, hr]
  case false =>
    cases hn : s.nmiPending
    case true => simp [State.event, hr, hn]
    case false => cases hi : s.irqLine <;> cases hp : s.p.i <;> simp [State.event, hr, hn, hi, hp]

/-- I masks the IRQ (60_exceptions R243). -/
theorem State.event_ne_irq_of_masked {s : State} (hp : s.p.i = true) : s.event ≠ .irq := by
  intro h
  have hinstr : s.resetPending = false → s.nmiPending = false → s.event = .instruction :=
    fun hr hn => State.event_eq_instruction_iff.2 ⟨hr, hn, .inr hp⟩
  cases hr : s.resetPending
  case true => simp [State.event_of_reset hr] at h
  case false =>
    cases hn : s.nmiPending
    case true => simp [State.event_of_nmi hr hn] at h
    case false => simp [hinstr hr hn] at h

/-! ### What the step is then -/

section
variable {s : State}

theorem step_of_reset (h : s.sampleInputs.event = .reset) : step s = .next s.sampleInputs.resetEntry := by
  simp only [step, h]

theorem step_of_nmi (h : s.sampleInputs.event = .nmi) : step s = .next s.sampleInputs.nmiEntry := by
  simp only [step, h]

theorem step_of_irq (h : s.sampleInputs.event = .irq) : step s = .next s.sampleInputs.irqEntry := by
  simp only [step, h]

theorem step_of_fetch {i : Instr} {after : State} (h : s.sampleInputs.event = .instruction)
    (hf : s.sampleInputs.fetch = .instr i after) : step s = .next (meaning i after) := by
  simp only [step, h, hf, exec_eq_meaning]

/-- A boundary that executes an instruction leaves the inputs as they were sampled. -/
theorem step_inputs_of_instruction {t : State} (h : s.sampleInputs.event = .instruction) (hstep : step s = .next t) :
    t.inputs = s.sampleInputs.inputs := by
  cases hf : s.sampleInputs.fetch with
  | illegal op =>
    simp only [step, h, hf] at hstep
    cases hstep
  | instr i after =>
    rw [step_of_fetch h hf] at hstep
    obtain rfl := Host.Outcome.next.inj hstep
    exact (sameInputs_iff.1 (meaning_sameInputs i after)).1.trans (State.fetch_inputs hf)

end

end Sys2Proof.Machine
end

section
/-! PROOF. Final states (70_reset_and_hazards R294): nothing can disturb one, at this boundary or the next, and its
instruction leaves the whole state. -/

namespace Sys2Proof.Machine

/-! ### No event comes -/

theorem State.undisturbed_iff {s : State} :
    s.undisturbed = true ↔
      s.resetPending = false ∧ s.nmiPending = false
      ∧ (∀ b ∈ s.schedule, b.nmiEdge = false ∧ b.resetRequest = false)
      ∧ (s.p.i = true ∨ (s.schedule = [] ∧ s.irqLine = false)
          ∨ (s.schedule ≠ [] ∧ ∀ b ∈ s.schedule, b.irqLine = false)) := by
  cases hs : s.schedule <;> simp [State.undisturbed, hs, and_assoc]

/-- Sampling brings no event here, and leaves none to come. -/
theorem State.undisturbed_sampleInputs {s : State} (h : s.undisturbed = true) :
    s.sampleInputs.undisturbed = true ∧ (s.sampleInputs.irqLine = false ∨ s.p.i = true) := by
  obtain ⟨hr, hn, hall, hirq⟩ := State.undisturbed_iff.1 h
  cases hs : s.schedule with
  | nil =>
    rw [State.sampleInputs_of_nil hs]
    exact ⟨h, by simpa [hs, or_comm] using hirq⟩
  | cons b rest =>
    rw [hs] at hall hirq
    obtain ⟨⟨hbn, hbr⟩, hrest⟩ := List.forall_mem_cons.1 hall
    have hmask : s.p.i = true ∨ (b.irqLine = false ∧ ∀ c ∈ rest, c.irqLine = false) := by simpa using hirq
    rw [State.sampleInputs_of_cons hs]
    refine ⟨State.undisturbed_iff.2 ⟨?reset, ?nmi, hrest, hmask.imp_right fun ⟨hb, hlater⟩ => ?irq⟩,
      hmask.symm.imp_left And.left⟩
    case reset => exact Bool.or_eq_false_iff.2 ⟨hr, hbr⟩
    case nmi => exact Bool.or_eq_false_iff.2 ⟨hn, hbn⟩
    case irq =>
      by_cases hnil : rest = []
      · exact .inl ⟨hnil, hb⟩
      · exact .inr ⟨hnil, hlater⟩

theorem State.event_of_undisturbed {s : State} (h : s.undisturbed = true) : s.sampleInputs.event = .instruction := by
  obtain ⟨hlater, hirq⟩ := State.undisturbed_sampleInputs h
  obtain ⟨hr, hn, _⟩ := State.undisturbed_iff.1 hlater
  exact State.event_eq_instruction_iff.2 ⟨hr, hn, s.sampleInputs_p ▸ hirq⟩

/-! ### The instruction leaves the state -/

/-- The displacement 0xFE is -2 (30_encoding R111). -/
theorem relativeTarget_self (w : Word) : relativeTarget w 0xFE = w := by
  have hback : (2 : Word) + sext16 0xFE = 0 := by decide
  rw [relativeTarget, add_assoc, hback, add_zero]

/-- What loops to itself: a jump to its own address, or a taken branch with the displacement 0xFE. -/
theorem selfLoop_cases {i : Instr} {s : State} (h : selfLoop i s = true) :
    i = .jmpAbs s.pc ∨ (i.row.mode = .rel ∧ i.operandBytes.getD 0 0 = 0xFE ∧ branchTaken i s = true) := by
  cases i
  case jmpAbs oper => exact .inl (congrArg Instr.jmpAbs (beq_iff_eq.1 h))
  case bcc | bcs | beq | bmi | bne | bpl | bvc | bvs =>
    obtain ⟨hb, hcond⟩ := Bool.and_eq_true_iff.1 h
    exact .inr ⟨rfl, beq_iff_eq.1 hb, hcond⟩
  all_goals cases h

theorem meaning_of_selfLoop {i : Instr} {s : State} (h : selfLoop i s = true) : meaning i s = s := by
  rcases selfLoop_cases h with rfl | ⟨hrel, hb, htaken⟩
  · exact congrArg s.jump (mkWord_hiByte_loByte s.pc)
  · rw [meaning_of_rel s hrel, State.branch_eq, htaken, hb, if_pos rfl, relativeTarget_self]
    rfl

theorem selfLoop_withInputs (i : Instr) (s : State) (inp : Inputs) :
    selfLoop i (s.withInputs inp) = selfLoop i s := by
  cases i <;> rfl

/-! ### Final states -/

theorem State.isFinal_iff {s : State} :
    s.isFinal = true ↔ s.undisturbed = true ∧ ∃ i, s.fetch = .instr i s ∧ selfLoop i s = true := by
  rw [State.isFinal, Bool.and_eq_true_iff]
  refine and_congr_right fun _ => ?_
  cases hf : s.fetch with
  | illegal op => simp
  | instr i after => simp [and_assoc]

/-- Sampling leaves a final state final: the fetch and the loop do not look at the inputs. -/
theorem State.isFinal_sampleInputs {s : State} (h : s.isFinal = true) : s.sampleInputs.isFinal = true := by
  obtain ⟨hquiet, i, hfetch, hloop⟩ := State.isFinal_iff.1 h
  refine State.isFinal_iff.2 ⟨(State.undisturbed_sampleInputs hquiet).1, i, ?_, ?_⟩ <;> rw [s.sampleInputs_eq]
  · exact State.fetch_withInputs _ hfetch
  · rw [selfLoop_withInputs, hloop]

/-- A final state's step is the sampling of its inputs alone. -/
theorem step_of_isFinal {s : State} (h : s.isFinal = true) : step s = .next s.sampleInputs := by
  obtain ⟨hquiet, _⟩ := State.isFinal_iff.1 h
  obtain ⟨_, i, hfetch, hloop⟩ := State.isFinal_iff.1 (State.isFinal_sampleInputs h)
  rw [step_of_fetch (State.event_of_undisturbed hquiet) hfetch, meaning_of_selfLoop hloop]

end Sys2Proof.Machine
end

section
/-! PROOF. The common entry of BRK, IRQ and NMI (60_exceptions R246): three pushes, I and PC. The status byte that it
leaves on top of the stack (R254), and the return that undoes it (R251). -/

namespace Sys2Proof.Machine

open Sys2Proof.Claims

/-! ### P as a byte -/

/-- The bits of the byte that an entry pushes (00_scope R17; 10_state R33, R34). -/
theorem Flags.pack_getLsbD (p : Flags) (b : Bool) :
    (p.pack b).getLsbD 4 = b ∧ (p.pack b).getLsbD 5 = true ∧ Flags.unpack (p.pack b) = p := by
  obtain ⟨n, v, d, i, z, c⟩ := p
  revert n v d i z c b
  decide

/-! ### The entry -/

section
variable (s : State) (ret : Word) (b : Bool) {vec : Word}

/-- The three pushes of an entry: the return address, then P. -/
def State.pushEntry : State := (s.pushWord ret).push (s.p.pack b)

theorem State.pushEntry_sp : (s.pushEntry ret b).sp = s.sp - 3 := by
  rw [State.pushEntry, State.push_sp, State.pushWord_sp, sub_sub]
  rfl

theorem State.pushEntry_status : (s.pushEntry ret b).stored (stackAddr (s.sp - 2)) = s.p.pack b := by
  rw [← s.pushWord_sp ret]
  exact State.push_stored_same _ _

/-- The third push goes to an address of its own, also where S wraps. -/
theorem State.pushEntry_other {addr : Word} (h : addr ≠ stackAddr (s.sp - 2)) :
    (s.pushEntry ret b).stored addr = (s.pushWord ret).stored addr := by
  rw [← s.pushWord_sp ret] at h
  exact State.push_stored_other _ _ h

theorem stackAddr_sub_ne {sp j k : Byte} (h : j ≠ k) : stackAddr (sp - j) ≠ stackAddr (sp - k) :=
  fun e => h (sub_right_inj.1 (stackAddr_inj.1 e))

theorem State.pushEntry_high : (s.pushEntry ret b).stored (stackAddr s.sp) = hiByte ret := by
  have hne : stackAddr (s.sp - 0) ≠ stackAddr (s.sp - 2) := stackAddr_sub_ne (by decide)
  rw [sub_zero] at hne
  rw [s.pushEntry_other ret b hne, State.pushWord_stored_high]

theorem State.pushEntry_low : (s.pushEntry ret b).stored (stackAddr (s.sp - 1)) = loByte ret := by
  rw [s.pushEntry_other ret b (stackAddr_sub_ne (by decide)), State.pushWord_stored_low]

theorem State.pushEntry_frame : sameInputs s (s.pushEntry ret b) ∧ sameBus s (s.pushEntry ret b) := by
  rw [State.pushEntry, State.push_eq, State.pushWord_eq]
  exact ⟨⟨rfl, rfl, rfl, rfl, rfl⟩, ⟨rfl, rfl⟩⟩

/-- The vectors are ROM, which no push reaches. -/
theorem State.pushEntry_rom {addr : Word} (h : 0xE000 ≤ addr.toNat) :
    (s.pushEntry ret b).stored addr = s.stored addr := by
  have hw : WritesOnly onStack s (s.pushEntry ret b) := (s.pushWord_writes ret).trans (State.push_writes _ _)
  refine hw.stored_other fun hstack => ?_
  have := onStack_range hstack
  omega

/-- The entry is its pushes, I and the jump through the vector (60_exceptions R246). -/
theorem State.interruptEntry_eq_pushEntry (h : 0xE000 ≤ vec.toNat) (h' : vec.toNat < 0xFFFF) :
    s.interruptEntry ret b vec =
      { s.pushEntry ret b with
        p := { s.p with i := true }, pc := mkWord (s.stored (vec + 1)) (s.stored vec) } := by
  have hnext : 0xE000 ≤ (vec + 1).toNat := by
    rw [word_add_one_toNat]
    omega
  rw [s.interruptEntry_eq ret b h h', ← s.pushEntry_rom ret b h, ← s.pushEntry_rom ret b hnext]
  rfl

theorem State.interruptEntry_entered (hvec : vec = nmiVector ∨ vec = irqVector) :
    entered s (s.interruptEntry ret b vec) ret b vec ∧ sameInputs s (s.interruptEntry ret b vec) := by
  have hrange : 0xE000 ≤ vec.toNat ∧ vec.toNat < 0xFFFF := by
    rcases hvec with rfl | rfl <;> decide
  obtain ⟨ha, hx, hy, -⟩ := s.pushWord_keeps ret
  obtain ⟨hinputs, hbus⟩ := s.pushEntry_frame ret b
  have hparams := (sameInputs_iff.1 hinputs).2
  rw [s.interruptEntry_eq_pushEntry ret b hrange.1 hrange.2]
  refine ⟨⟨s.pushEntry_high ret b, s.pushEntry_low ret b, s.pushEntry_status ret b,
    fun addr hhigh hlow hstatus => ?other, s.pushEntry_sp ret b, rfl, rfl, ha, hx, hy, hbus, hparams⟩, hinputs⟩
  exact (s.pushEntry_other ret b hstatus).trans (s.pushWord_stored_other ret hhigh hlow)

end

/-! ### What an entry leaves on top of the stack -/

section
variable {s t : State} {ret vec : Word} {b : Bool}

theorem entered_masks (h : entered s t ret b vec) : t.p.i = true := by
  obtain ⟨-, -, -, -, -, hp, -⟩ := h
  rw [hp]

/-- From S after the entry, the three bytes stand where three pulls look for them. -/
theorem entered_top (h : entered s t ret b vec) :
    t.stored (stackAddr (t.sp + 1)) = s.p.pack b ∧ t.stored (stackAddr (t.sp + 2)) = loByte ret
      ∧ t.stored (stackAddr (t.sp + 3)) = hiByte ret ∧ t.sp + 3 = s.sp := by
  obtain ⟨hhigh, hlow, hstatus, -, hsp, -⟩ := h
  have h1 : s.sp - 3 + 1 = s.sp - 2 := by rw [sub_add]; rfl
  have h2 : s.sp - 3 + 2 = s.sp - 1 := by rw [sub_add]; rfl
  have h3 : s.sp - 3 + 3 = s.sp := sub_add_cancel s.sp 3
  rw [hsp, h1, h2, h3]
  exact ⟨hstatus, hlow, hhigh, rfl⟩

/-- The byte at the top tells B and the flags before the entry (60_exceptions R254). -/
theorem statusPushed_of_entered (h : entered s t ret b vec) : statusPushed t b s.p := by
  obtain ⟨hstatus, -⟩ := entered_top h
  have haddr : BitVec.ofNat 16 (0x100 + (t.sp.toNat + 1) % 256) = stackAddr (t.sp + 1) := by
    rw [stackAddr_eq_ofNat, byte_add_one_toNat]
  simp only [statusPushed, haddr, hstatus]
  exact s.p.pack_getLsbD b

end

/-! ### The return -/

/-- RTI (60_exceptions R251) pulls P, then the address, low byte first, and writes S, P and PC alone. -/
theorem State.returnFromInterrupt_eq_top (s : State) :
    s.returnFromInterrupt =
      { s with
        p := Flags.unpack (s.stored (stackAddr (s.sp + 1)))
        sp := s.sp + 3
        pc := mkWord (s.stored (stackAddr (s.sp + 3))) (s.stored (stackAddr (s.sp + 2))) } := by
  have h2 : s.sp + 1 + 1 = s.sp + 2 := add_assoc s.sp 1 1
  have h3 : s.sp + 2 + 1 = s.sp + 3 := add_assoc s.sp 2 1
  rw [State.returnFromInterrupt_eq, h2, h3]

/-- What code that leaves S and the three bytes above it keeps, byte by byte. -/
theorem sameTop_three {t u : State} (h : sameTop 3 t u) :
    u.sp = t.sp ∧ u.stored (stackAddr (u.sp + 1)) = t.stored (stackAddr (t.sp + 1))
      ∧ u.stored (stackAddr (u.sp + 2)) = t.stored (stackAddr (t.sp + 2))
      ∧ u.stored (stackAddr (u.sp + 3)) = t.stored (stackAddr (t.sp + 3)) := by
  obtain ⟨hsp, htop⟩ := h
  rw [hsp]
  exact ⟨rfl, htop 1 (by omega) (by omega), htop 2 (by omega) (by omega), htop 3 (by omega) (by omega)⟩

/-- RTI on the top that an entry left (60_exceptions R251). -/
theorem returnFromInterrupt_of_entered {s t u : State} {ret vec : Word} {b : Bool} (h : entered s t ret b vec)
    (htop : sameTop 3 t u) :
    u.returnFromInterrupt.pc = ret ∧ u.returnFromInterrupt.p = s.p ∧ u.returnFromInterrupt.sp = s.sp := by
  obtain ⟨hstatus, hlow, hhigh, hspEntry⟩ := entered_top h
  obtain ⟨hsp, hstatusKept, hlowKept, hhighKept⟩ := sameTop_three htop
  obtain ⟨-, -, hunpack⟩ := s.p.pack_getLsbD b
  rw [State.returnFromInterrupt_eq_top]
  refine ⟨?pc, ?p, ?sp⟩
  case pc => rw [hlowKept, hhighKept, hlow, hhigh, mkWord_hiByte_loByte]
  case p => rw [hstatusKept, hstatus, hunpack]
  case sp => rw [hsp, hspEntry]

theorem exec_brk (s : State) : exec .brk s = .next (s.interruptEntry (s.pc + 2) true irqVector) := rfl

theorem exec_rti (s : State) : exec .rti s = .next s.returnFromInterrupt := rfl

/-! ### The entries of IRQ, NMI and reset -/

section
variable (s : State)

theorem State.irqEntry_entered : entered s s.irqEntry s.pc false irqVector ∧ sameInputs s s.irqEntry :=
  s.interruptEntry_entered s.pc false (.inr rfl)

/-- The NMI entry (60_exceptions R249) clears its latch, which no other part of the entry looks at. -/
theorem State.nmiEntry_entered :
    entered s s.nmiEntry s.pc false nmiVector ∧ sameInputs { s with nmiPending := false } s.nmiEntry :=
  State.interruptEntry_entered { s with nmiPending := false } s.pc false (.inl rfl)

/-- An entry does not look at the inputs, so it leaves the same from before the sampling (60_exceptions R242). -/
theorem entered_sampleInputs {t : State} {ret vec : Word} {b : Bool} :
    entered s.sampleInputs t ret b vec ↔ entered s t ret b vec := by
  rw [s.sampleInputs_eq]
  rfl

end

/-- Every entry sets I (60_exceptions R246, R250). -/
theorem step_masks_of_event {s t : State} (h : s.sampleInputs.event ≠ .instruction) (hstep : step s = .next t) :
    t.p.i = true := by
  cases hev : s.sampleInputs.event
  case instruction => exact absurd hev h
  case reset =>
    rw [step_of_reset hev] at hstep
    rw [← Host.Outcome.next.inj hstep, State.resetEntry_eq]
  case nmi =>
    rw [step_of_nmi hev] at hstep
    exact Host.Outcome.next.inj hstep ▸ entered_masks s.sampleInputs.nmiEntry_entered.1
  case irq =>
    rw [step_of_irq hev] at hstep
    exact Host.Outcome.next.inj hstep ▸ entered_masks s.sampleInputs.irqEntry_entered.1

end Sys2Proof.Machine
end

section
/-! PROOF. The cycle counts as a table by addressing mode and mnemonic (70_reset_and_hazards R289 to R291). -/

namespace Sys2Proof.Machine

open Sys2Proof.Claims

/-- The note beside a printed cycle count, by addressing mode and mnemonic: R291 beside the branches, R290 beside the
instructions that only read at an address that carries. -/
def listedPenalty (mode : Mode) (m : Mnemonic) : CyclePenalty :=
  match mode with
  | .rel => .branch
  | .abx | .aby | .izy => if m ∈ storesAtEa then .none else .pageCross
  | _ => .none

/-- The opcode table's cycles and notes are the spec's, row by row. -/
theorem row_timing (i : Instr) :
    i.row.cycles = listedCycles i.row.mode i.row.mnemonic
      ∧ i.row.penalty = listedPenalty i.row.mode i.row.mnemonic := by
  cases i <;> exact ⟨rfl, rfl⟩

section
variable {i : Instr} (s : State)

theorem instrCycles_of_starred (hmode : i.row.mode = .abx ∨ i.row.mode = .aby ∨ i.row.mode = .izy)
    (hm : i.row.mnemonic ∉ storesAtEa) :
    instrCycles i s = listedCycles i.row.mode i.row.mnemonic + if leavesPage i s then 1 else 0 := by
  obtain ⟨hcycles, hpenalty⟩ := row_timing i
  have hstar : i.row.penalty = .pageCross := by
    rw [hpenalty]
    rcases hmode with h | h | h <;> simp only [h, listedPenalty, if_neg hm]
  simp only [instrCycles, hcycles, hstar, pageCrossed_eq_leavesPage]

theorem instrCycles_of_rel (h : i.row.mode = .rel) :
    instrCycles i s =
      if branchTaken i s then
        (if hiByte (relativeTarget s.pc (i.operandBytes.getD 0 0)) = hiByte (s.pc + 2) then 3 else 4)
      else 2 := by
  obtain ⟨hcycles, hpenalty⟩ := row_timing i
  simp only [instrCycles, hcycles, hpenalty, h, listedCycles, listedPenalty]
  split
  · split <;> rfl
  · rfl

theorem instrCycles_of_plain
    (hstar : ¬((i.row.mode = .abx ∨ i.row.mode = .aby ∨ i.row.mode = .izy) ∧ i.row.mnemonic ∉ storesAtEa))
    (hrel : i.row.mode ≠ .rel) : instrCycles i s = listedCycles i.row.mode i.row.mnemonic := by
  obtain ⟨hcycles, hpenalty⟩ := row_timing i
  have hnone : i.row.penalty = .none := by
    rw [hpenalty]
    cases hmode : i.row.mode
    case rel => exact absurd hmode hrel
    case abx | aby | izy =>
      have hm : i.row.mnemonic ∈ storesAtEa := by simpa [hmode] using hstar
      exact if_pos hm
    all_goals rfl
  simp only [instrCycles, hcycles, hnone, add_zero]

/-- The stores and the read-modify-write instructions carry no note (R290). -/
theorem instrCycles_of_store (hm : i.row.mnemonic ∈ storesAtEa) (hrel : i.row.mode ≠ .rel) :
    instrCycles i s = listedCycles i.row.mode i.row.mnemonic :=
  instrCycles_of_plain s (fun h => h.2 hm) hrel

end

end Sys2Proof.Machine
end

section
/-! PROOF. The obligations of 48_system, 60_exceptions and 70_reset_and_hazards. -/

namespace Sys2Proof.Claims

open Sys2Proof.Machine

/-! ### BRK, RTI and the entries -/

/-- Settles O34: the entry's pushes, the mask and the vector, for both vectors. -/
theorem interruptEntryEffect : Obligations.InterruptEntryEffect :=
  fun s ret b _ hvec => s.interruptEntry_entered ret b hvec

/-- Settles O32: BRK is the common entry with pc0 + 2, B = 1 and the vector it shares with IRQ (R230). -/
theorem brkResult : Obligations.BrkResult := by
  intro s
  obtain ⟨hentered, hinputs⟩ := s.interruptEntry_entered (s.pc + 2) true (.inr rfl)
  exact ⟨decode_encode .brk, _, exec_brk s, hentered, hinputs⟩

/-- Settles O33: the three pulled bytes, and S as a number. -/
theorem rtiResult : Obligations.RtiResult := by
  intro s v
  refine ⟨decode_encode .rti, _, exec_rti s, ?_⟩
  rw [State.returnFromInterrupt_eq_top]
  exact ⟨Flags.unpack_eq v, mkWord_toNat _ _, BitVec.toNat_add s.sp 3, rfl, rfl, rfl, fun _ => rfl,
    ⟨rfl, rfl, rfl, rfl, rfl⟩, ⟨rfl, rfl⟩⟩

/-- Settles O40: the three bytes that RTI pulls are still those that the entry pushed. -/
theorem rtiUndoesEntry : Obligations.RtiUndoesEntry := by
  intro s u ret b vec hvec htop
  obtain ⟨hentered, -⟩ := s.interruptEntry_entered ret b hvec
  exact ⟨_, exec_rti u, returnFromInterrupt_of_entered hentered htop⟩

/-- Settles O41: BRK enters with B = 1, IRQ and NMI with B = 0, also where a step takes them. -/
theorem breakBitTellsBrk : Obligations.BreakBitTellsBrk := by
  intro s
  have hirq (u : State) : statusPushed u.irqEntry false u.p := statusPushed_of_entered u.irqEntry_entered.1
  have hnmi (u : State) : statusPushed u.nmiEntry false u.p := statusPushed_of_entered u.nmiEntry_entered.1
  obtain ⟨hbrk, -⟩ := s.interruptEntry_entered (s.pc + 2) true (.inr rfl)
  refine ⟨⟨_, exec_brk s, statusPushed_of_entered hbrk⟩, hirq s, hnmi s, fun t hev hstep => ?step⟩
  rw [← s.sampleInputs_p]
  rcases hev with hev | hev
  · rw [step_of_irq hev] at hstep
    exact Host.Outcome.next.inj hstep ▸ hirq s.sampleInputs
  · rw [step_of_nmi hev] at hstep
    exact Host.Outcome.next.inj hstep ▸ hnmi s.sampleInputs

/-! ### Boundaries -/

/-- Settles O38: sampling takes the head of the schedule, or nothing. -/
theorem inputsAreSampled : Obligations.InputsAreSampled := by
  refine fun s b rest => ⟨fun h => ?_, State.sampleInputs_of_nil⟩
  rw [State.sampleInputs_of_cons h]
  exact ⟨rfl, rfl, Bool.or_eq_true_iff, Bool.or_eq_true_iff, ⟨rfl, rfl, rfl, rfl⟩, rfl, rfl, fun _ => rfl,
    ⟨rfl, rfl⟩, rfl⟩

/-- Settles O35: the step is the IRQ entry of the sampled state. -/
theorem irqTaken : Obligations.IrqTaken := by
  intro s hr hn hline hmask
  have hev : s.sampleInputs.event = .irq := State.event_of_irq hr hn hline (s.sampleInputs_p ▸ hmask)
  obtain ⟨hentered, hinputs⟩ := s.sampleInputs.irqEntry_entered
  rw [entered_sampleInputs, State.sampleInputs_pc] at hentered
  exact ⟨_, step_of_irq hev, hentered, hinputs⟩

/-- Settles O36: the step is the NMI entry of the sampled state, which clears its latch alone. -/
theorem nmiTaken : Obligations.NmiTaken := by
  intro s hr hn
  obtain ⟨hentered, hirq, hnmi, hreset, hsched, -⟩ := s.sampleInputs.nmiEntry_entered
  rw [entered_sampleInputs, State.sampleInputs_pc] at hentered
  exact ⟨_, step_of_nmi (State.event_of_nmi hr hn), hentered, hnmi, hirq, hreset.trans hr, hsched⟩

/-- Settles O37: the step is the reset entry of the sampled state, whose registers and memory are those before it. -/
theorem resetTaken : Obligations.ResetTaken := by
  intro s hr
  have hsub : (s.sp - 3).toNat = (253 + s.sp.toNat) % 256 := BitVec.toNat_sub s.sp 3
  have hsp : ((s.sp - 3).toNat : Int) = ((s.sp.toNat : Int) - 3) % 256 := by omega
  refine ⟨_, step_of_reset (State.event_of_reset hr), ?_⟩
  rw [State.resetEntry_eq, s.sampleInputs_eq]
  exact ⟨rfl, rfl, hsp, rfl, mkWord_toNat _ _, rfl, rfl, rfl, fun _ => rfl, ⟨rfl, rfl⟩, rfl, rfl, rfl⟩

/-- Settles O39: every entry sets I, which masks the IRQ at the next boundary whatever is sampled there. -/
theorem entryMasksIrq : Obligations.EntryMasksIrq := by
  intro s t hev hstep
  exact State.event_ne_irq_of_masked (t.sampleInputs_p ▸ step_masks_of_event hev hstep)

/-- Settles O60: the fetch and the instruction leave the inputs as they were sampled. -/
theorem instructionRunsWithoutEvent : Obligations.InstructionRunsWithoutEvent := by
  intro s
  have hiff := s.sampleInputs_p ▸ State.event_eq_instruction_iff (s := s.sampleInputs)
  refine ⟨hiff, fun hr hn hmask => ?_⟩
  have hev := hiff.2 ⟨hr, hn, hmask⟩
  exact ⟨fun _ _ _ => step_of_readBytes hev,
    fun t hstep => congrArg Inputs.irqLine (step_inputs_of_instruction hev hstep)⟩

/-- Settles O50: the meaning commutes with replacing the inputs, so it neither reads nor writes them. -/
theorem instructionsIgnoreInputs : Obligations.InstructionsIgnoreInputs := by
  intro i s t irq nmi reset sched h
  obtain rfl := eq_meaning_of_exec h
  refine ⟨?_, meaning_sameInputs i s⟩
  rw [exec_eq_meaning]
  exact congrArg Host.Outcome.next (meaning_withInputs i s ⟨irq, nmi, reset, sched⟩)

/-! ### Finished runs and cycle counts -/

/-- Settles O46: a final state's step samples the inputs, which leaves it final. -/
theorem finalStateStays : Obligations.FinalStateStays := by
  intro s h
  have hfinal := State.isFinal_sampleInputs h
  refine ⟨s.sampleInputs, step_of_isFinal h, hfinal, ?_⟩
  rw [s.sampleInputs_eq]
  exact ⟨rfl, rfl, ⟨rfl, rfl, rfl, rfl⟩, rfl, ⟨rfl, rfl⟩, rfl⟩

/-- Settles O59: the rows' cycles and notes are the spec's table, and its entries for the stores. -/
theorem cycleCounts : Obligations.CycleCounts := by
  intro i s listed starred
  refine ⟨fun ⟨hmode, hm⟩ => instrCycles_of_starred s hmode hm, instrCycles_of_rel s, instrCycles_of_plain s,
    fun hm => ?sta, fun hm hmode => ?modifies⟩
  case sta =>
    have hstore : i.row.mnemonic ∈ storesAtEa := by simp [hm, storesAtEa]
    refine ⟨fun h => ?_, fun h => ?_, fun h => ?_⟩
    all_goals
      rw [instrCycles_of_store s hstore (by simp [h]), h, hm]
      rfl
  case modifies =>
    have hsub : ∀ m ∈ modifies, m ∈ storesAtEa ∧ listedCycles .abx m = 7 := by decide
    obtain ⟨hstore, hseven⟩ := hsub _ hm
    rw [instrCycles_of_store s hstore (by simp [hmode]), hmode, hseven]

end Sys2Proof.Claims
end
